-- ==== Sys2Proof/Word.lean ====
section
/-! DEFINITION. The word types of the core (00_scope.md R9, R11; 30_encoding.md R81; 10_state.md R22). -/

namespace Sys2Proof

/-- A 32-bit unsigned word, bit 0 least significant (R11). `+` on it is addition modulo 2^32 (R12, R102). -/
abbrev Word := BitVec 32

/-- A cycle input word: the 40 bits `rst, we, addr, wdata` the host presents at one edge (R80, R81). -/
abbrev Ciw := BitVec 40

/-- A word address of the host register space (R56, R57). -/
abbrev Addr := BitVec 6

/-- A byte of a message; only the host's padding has bytes (R62, R131). -/
abbrev Byte := BitVec 8

/-- The eight words of the hash state, word 0 first (R9, R23). -/
abbrev Hash := Vector Word 8

/-- The sixteen words of a 512-bit block, word 0 first (R9, R26). -/
abbrev Block := Vector Word 16

end Sys2Proof
end

