-- ==== Sys2Proof/Machine/Mixing.lean ====
section
/-! DEFINITION. The mixing logic (40_round_functions.md R100 to R108): pure functions of words, no state, no flag, no error
(R109). Addition modulo 2^32 (R102) is `+` of `Word`. -/

namespace Sys2Proof.Machine

/-- ROTR^n(x), circular right rotation, 0 < n < 32 at every call (R100). -/
def ROTR (n : Nat) (x : Word) : Word := (x >>> n) ||| (x <<< (32 - n))

/-- SHR^n(x), logical right shift (R101). -/
def SHR (n : Nat) (x : Word) : Word := x >>> n

/-- The XOR of three words, which every mixing function but Ch ends in (R104 to R108). -/
def xor3 (p q r : Word) : Word := p ^^^ q ^^^ r

/-- The source's `choose` (R103). -/
def Ch (x y z : Word) : Word := (x &&& y) ^^^ (~~~x &&& z)

/-- The source's `majority` (R104). -/
def Maj (x y z : Word) : Word := xor3 (x &&& y) (x &&& z) (y &&& z)

/-- Σ0, the source's `bigSigma0` (R105). -/
def bigSigma0 (x : Word) : Word := xor3 (ROTR 2 x) (ROTR 13 x) (ROTR 22 x)

/-- Σ1, the source's `bigSigma1` (R106). -/
def bigSigma1 (x : Word) : Word := xor3 (ROTR 6 x) (ROTR 11 x) (ROTR 25 x)

/-- σ0, the source's `smallSigma0` (R107). -/
def smallSigma0 (x : Word) : Word := xor3 (ROTR 7 x) (ROTR 18 x) (SHR 3 x)

/-- σ1, the source's `smallSigma1` (R108). -/
def smallSigma1 (x : Word) : Word := xor3 (ROTR 17 x) (ROTR 19 x) (SHR 10 x)

end Sys2Proof.Machine
end

