-- ==== Sys2Proof/Machine/Schedule.lean ====
section
/-! DEFINITION. The message schedule: as the source's recurrence (42_message_schedule.md R150) and as the hardware's 16-word
window (R152, R153). -/

namespace Sys2Proof.Machine

/-- The recurrence's right side, from W[s-2], W[s-7], W[s-15] and W[s-16] (R150). -/
def scheduleWord (w2 w7 w15 w16 : Word) : Word :=
  smallSigma1 w2 + w7 + smallSigma0 w15 + w16

/-- W[t] of the block M: the block's own words, then the recurrence. It goes on past t = 63 as R154 extends it. -/
def schedule (M : Block) : Nat → Word
  | 0 => M[0]
  | 1 => M[1]
  | 2 => M[2]
  | 3 => M[3]
  | 4 => M[4]
  | 5 => M[5]
  | 6 => M[6]
  | 7 => M[7]
  | 8 => M[8]
  | 9 => M[9]
  | 10 => M[10]
  | 11 => M[11]
  | 12 => M[12]
  | 13 => M[13]
  | 14 => M[14]
  | 15 => M[15]
  | t + 16 => scheduleWord (schedule M (t + 14)) (schedule M (t + 9)) (schedule M (t + 1)) (schedule M t)

/-- The window step: shift down by one and enter the new word, taps 14, 9, 1 and 0 (R153, R156). -/
def windowStep (w : Block) : Block := #v[
  w[1], w[2], w[3], w[4], w[5], w[6], w[7], w[8], w[9], w[10], w[11], w[12], w[13], w[14], w[15],
  scheduleWord w[14] w[9] w[1] w[0]]

end Sys2Proof.Machine
end

