-- ==== Sys2Proof/Syntax.lean ====
section
/-! DEFINITION. The instructions: one constructor per row of spec/opcode_table.json, that is one per class of cycle input
word (30_encoding.md R80 to R88). Every bit of a CIW that a row does not fix is an argument, the don't-care bits too (log
entry 5), so an instruction and its word determine each other. -/

namespace Sys2Proof

/-- A host transaction (R80). Arguments: `v` the write datum, `i` the BLK index, `j` the DIGEST index (R87), `a` the low bits
of a reserved address, `x` the DATA field of a read, which has no effect (R82). -/
inductive Instr where
  /-- `reset`: any CIW with RST = 1; `we`, `addr`, `data` are its don't-care fields (R82, R260). -/
  | reset (we : Bool) (addr : Addr) (data : Word)
  /-- `nop`, CTRL word 0x0 (R197). -/
  | nop
  /-- `init`, CTRL word 0x1 (R198). -/
  | init
  /-- `block`, CTRL word 0x2 (R199). -/
  | block
  /-- `block.last`, CTRL word 0x6 (R200). -/
  | blockLast
  /-- `initblock`, CTRL word 0x3 (R201). -/
  | initblock
  /-- `initblock.last`, CTRL word 0x7 (R202). -/
  | initblockLast
  /-- `wrctrl 0x4`: LAST with NOP (R86, R203). -/
  | wrctrlMalformed4
  /-- `wrctrl 0x5`: LAST with INIT (R86, R203). -/
  | wrctrlMalformed5
  /-- `wrctrl v` with reserved bit 3 of v set (R86, R203). -/
  | wrctrlMalformedRsvd3 (v : Word)
  /-- `wrctrl v` with reserved bit 4 of v set (R86, R203). -/
  | wrctrlMalformedRsvd4 (v : Word)
  /-- `wrctrl v` with reserved bit 5 of v set (R86, R203). -/
  | wrctrlMalformedRsvd5 (v : Word)
  /-- `wrctrl v` with reserved bit 6 of v set (R86, R203). -/
  | wrctrlMalformedRsvd6 (v : Word)
  /-- `wrctrl v` with reserved bit 7 of v set (R86, R203). -/
  | wrctrlMalformedRsvd7 (v : Word)
  /-- `wrctrl v` with reserved bit 8 of v set (R86, R203). -/
  | wrctrlMalformedRsvd8 (v : Word)
  /-- `wrctrl v` with reserved bit 9 of v set (R86, R203). -/
  | wrctrlMalformedRsvd9 (v : Word)
  /-- `wrctrl v` with reserved bit 10 of v set (R86, R203). -/
  | wrctrlMalformedRsvd10 (v : Word)
  /-- `wrctrl v` with reserved bit 11 of v set (R86, R203). -/
  | wrctrlMalformedRsvd11 (v : Word)
  /-- `wrctrl v` with reserved bit 12 of v set (R86, R203). -/
  | wrctrlMalformedRsvd12 (v : Word)
  /-- `wrctrl v` with reserved bit 13 of v set (R86, R203). -/
  | wrctrlMalformedRsvd13 (v : Word)
  /-- `wrctrl v` with reserved bit 14 of v set (R86, R203). -/
  | wrctrlMalformedRsvd14 (v : Word)
  /-- `wrctrl v` with reserved bit 15 of v set (R86, R203). -/
  | wrctrlMalformedRsvd15 (v : Word)
  /-- `wrctrl v` with reserved bit 16 of v set (R86, R203). -/
  | wrctrlMalformedRsvd16 (v : Word)
  /-- `wrctrl v` with reserved bit 17 of v set (R86, R203). -/
  | wrctrlMalformedRsvd17 (v : Word)
  /-- `wrctrl v` with reserved bit 18 of v set (R86, R203). -/
  | wrctrlMalformedRsvd18 (v : Word)
  /-- `wrctrl v` with reserved bit 19 of v set (R86, R203). -/
  | wrctrlMalformedRsvd19 (v : Word)
  /-- `wrctrl v` with reserved bit 20 of v set (R86, R203). -/
  | wrctrlMalformedRsvd20 (v : Word)
  /-- `wrctrl v` with reserved bit 21 of v set (R86, R203). -/
  | wrctrlMalformedRsvd21 (v : Word)
  /-- `wrctrl v` with reserved bit 22 of v set (R86, R203). -/
  | wrctrlMalformedRsvd22 (v : Word)
  /-- `wrctrl v` with reserved bit 23 of v set (R86, R203). -/
  | wrctrlMalformedRsvd23 (v : Word)
  /-- `wrctrl v` with reserved bit 24 of v set (R86, R203). -/
  | wrctrlMalformedRsvd24 (v : Word)
  /-- `wrctrl v` with reserved bit 25 of v set (R86, R203). -/
  | wrctrlMalformedRsvd25 (v : Word)
  /-- `wrctrl v` with reserved bit 26 of v set (R86, R203). -/
  | wrctrlMalformedRsvd26 (v : Word)
  /-- `wrctrl v` with reserved bit 27 of v set (R86, R203). -/
  | wrctrlMalformedRsvd27 (v : Word)
  /-- `wrctrl v` with reserved bit 28 of v set (R86, R203). -/
  | wrctrlMalformedRsvd28 (v : Word)
  /-- `wrctrl v` with reserved bit 29 of v set (R86, R203). -/
  | wrctrlMalformedRsvd29 (v : Word)
  /-- `wrctrl v` with reserved bit 30 of v set (R86, R203). -/
  | wrctrlMalformedRsvd30 (v : Word)
  /-- `wrctrl v` with reserved bit 31 of v set (R86, R203). -/
  | wrctrlMalformedRsvd31 (v : Word)
  /-- `wrblk i, v` (R196). -/
  | wrblk (i : BitVec 4) (v : Word)
  /-- `wr STATUS, v` (R204). -/
  | wrStatus (v : Word)
  /-- `wr DIGEST[j], v` (R204). -/
  | wrDigest (j : BitVec 3) (v : Word)
  /-- `wr` to a reserved address 0x02..0x03, `a` its low bits (R204). -/
  | wrRsvd02 (a : BitVec 1) (v : Word)
  /-- `wr` to a reserved address 0x04..0x07, `a` its low bits (R204). -/
  | wrRsvd04 (a : BitVec 2) (v : Word)
  /-- `wr` to a reserved address 0x08..0x0F, `a` its low bits (R204). -/
  | wrRsvd08 (a : BitVec 3) (v : Word)
  /-- `wr` to a reserved address 0x28..0x2F, `a` its low bits (R204). -/
  | wrRsvd28 (a : BitVec 3) (v : Word)
  /-- `wr` to a reserved address 0x30..0x3F, `a` its low bits (R204). -/
  | wrRsvd30 (a : BitVec 4) (v : Word)
  /-- `rdctrl`, with its don't-care DATA `x` (R82, R195); `idle` is `rdctrl 0`. -/
  | rdctrl (x : Word)
  /-- `rdstat` (R192). -/
  | rdstat (x : Word)
  /-- `rdblk i` (R193). -/
  | rdblk (i : BitVec 4) (x : Word)
  /-- `rddig j` (R194). -/
  | rddig (j : BitVec 3) (x : Word)
  /-- `rd` of a reserved address 0x02..0x03, `a` its low bits (R195). -/
  | rdRsvd02 (a : BitVec 1) (x : Word)
  /-- `rd` of a reserved address 0x04..0x07, `a` its low bits (R195). -/
  | rdRsvd04 (a : BitVec 2) (x : Word)
  /-- `rd` of a reserved address 0x08..0x0F, `a` its low bits (R195). -/
  | rdRsvd08 (a : BitVec 3) (x : Word)
  /-- `rd` of a reserved address 0x28..0x2F, `a` its low bits (R195). -/
  | rdRsvd28 (a : BitVec 3) (x : Word)
  /-- `rd` of a reserved address 0x30..0x3F, `a` its low bits (R195). -/
  | rdRsvd30 (a : BitVec 4) (x : Word)
  deriving DecidableEq, Repr

end Sys2Proof
end

