-- ==== Sys2Proof/WellFormed.lean ====
section
/-! DEFINITION. Which instructions are well formed: an operand fits its field by its type, so the one check is that a
`wrctrl.malformed.rsvdK` word belongs to row K (R86) and is spelt by the row of its LOWEST set reserved bit, since these 29
rows overlap and all have the same effect (log entry 4). -/

namespace Sys2Proof

/-- Reserved bit `k` of the CTRL word `v` is set and no reserved bit below it is (bits 31:3 are reserved, R84). -/
def lowestReservedBit (k : Nat) (v : Word) : Bool :=
  v.getLsbD k && v.extractLsb' 3 (k - 3) == 0

/-- The instruction is the canonical spelling of its word. -/
def Instr.wellFormed (i : Instr) : Bool :=
  match i with
  | .reset _ _ _ => true
  | .nop => true
  | .init => true
  | .block => true
  | .blockLast => true
  | .initblock => true
  | .initblockLast => true
  | .wrctrlMalformed4 => true
  | .wrctrlMalformed5 => true
  | .wrctrlMalformedRsvd3 v => lowestReservedBit 3 v
  | .wrctrlMalformedRsvd4 v => lowestReservedBit 4 v
  | .wrctrlMalformedRsvd5 v => lowestReservedBit 5 v
  | .wrctrlMalformedRsvd6 v => lowestReservedBit 6 v
  | .wrctrlMalformedRsvd7 v => lowestReservedBit 7 v
  | .wrctrlMalformedRsvd8 v => lowestReservedBit 8 v
  | .wrctrlMalformedRsvd9 v => lowestReservedBit 9 v
  | .wrctrlMalformedRsvd10 v => lowestReservedBit 10 v
  | .wrctrlMalformedRsvd11 v => lowestReservedBit 11 v
  | .wrctrlMalformedRsvd12 v => lowestReservedBit 12 v
  | .wrctrlMalformedRsvd13 v => lowestReservedBit 13 v
  | .wrctrlMalformedRsvd14 v => lowestReservedBit 14 v
  | .wrctrlMalformedRsvd15 v => lowestReservedBit 15 v
  | .wrctrlMalformedRsvd16 v => lowestReservedBit 16 v
  | .wrctrlMalformedRsvd17 v => lowestReservedBit 17 v
  | .wrctrlMalformedRsvd18 v => lowestReservedBit 18 v
  | .wrctrlMalformedRsvd19 v => lowestReservedBit 19 v
  | .wrctrlMalformedRsvd20 v => lowestReservedBit 20 v
  | .wrctrlMalformedRsvd21 v => lowestReservedBit 21 v
  | .wrctrlMalformedRsvd22 v => lowestReservedBit 22 v
  | .wrctrlMalformedRsvd23 v => lowestReservedBit 23 v
  | .wrctrlMalformedRsvd24 v => lowestReservedBit 24 v
  | .wrctrlMalformedRsvd25 v => lowestReservedBit 25 v
  | .wrctrlMalformedRsvd26 v => lowestReservedBit 26 v
  | .wrctrlMalformedRsvd27 v => lowestReservedBit 27 v
  | .wrctrlMalformedRsvd28 v => lowestReservedBit 28 v
  | .wrctrlMalformedRsvd29 v => lowestReservedBit 29 v
  | .wrctrlMalformedRsvd30 v => lowestReservedBit 30 v
  | .wrctrlMalformedRsvd31 v => lowestReservedBit 31 v
  | .wrblk _ _ => true
  | .wrStatus _ => true
  | .wrDigest _ _ => true
  | .wrRsvd02 _ _ => true
  | .wrRsvd04 _ _ => true
  | .wrRsvd08 _ _ => true
  | .wrRsvd28 _ _ => true
  | .wrRsvd30 _ _ => true
  | .rdctrl _ => true
  | .rdstat _ => true
  | .rdblk _ _ => true
  | .rddig _ _ => true
  | .rdRsvd02 _ _ => true
  | .rdRsvd04 _ _ => true
  | .rdRsvd08 _ _ => true
  | .rdRsvd28 _ _ => true
  | .rdRsvd30 _ _ => true

/-- `Instr.wellFormed` as a proposition. -/
abbrev Instr.WellFormed (i : Instr) : Prop := i.wellFormed = true

end Sys2Proof
end

