-- ==== Sys2Proof/Decode.lean ====
section
/-! DEFINITION. Decoding and encoding of cycle input words (30_encoding.md R81 to R88). Every one of the 2^40 CIWs is a host
transaction (R83: the classes "cover all 64 addresses"; R85, R86: every CTRL word), so `decode` refuses no CIW; a number of
more than 40 bits is no CIW and is rejected by name. -/

namespace Sys2Proof

/-! ## The fields of a CIW (R81) -/

/-- Bit 39, the port `rst`. -/
def Ciw.rst (w : Ciw) : Bool := w.getLsbD 39

/-- Bit 38, the port `we`. -/
def Ciw.we (w : Ciw) : Bool := w.getLsbD 38

/-- Bits 37:32, the port `addr`. -/
def Ciw.addr (w : Ciw) : Addr := w.extractLsb' 32 6

/-- Bits 31:0, the port `wdata`. -/
def Ciw.data (w : Ciw) : Word := w.extractLsb' 0 32

/-- The CIW with the given port values: `RST·2^39 + WE·2^38 + ADDR·2^32 + DATA` (R81). -/
def ciw (rst we : Bool) (addr : Addr) (data : Word) : Ciw :=
  BitVec.ofBool rst ++ BitVec.ofBool we ++ addr ++ data

/-- The canonical cycle in which the host does nothing: the read of CTRL, CIW 0x0000000000 (R82). -/
def idleCiw : Ciw := 0x0000000000

/-! ## Decoding -/

/-- A CTRL word some reserved bit of which is set (R86): the row of its lowest set reserved bit (log entry 4). -/
def decodeReserved (v : Word) : Instr :=
  if v.getLsbD 3 then .wrctrlMalformedRsvd3 v
  else if v.getLsbD 4 then .wrctrlMalformedRsvd4 v
  else if v.getLsbD 5 then .wrctrlMalformedRsvd5 v
  else if v.getLsbD 6 then .wrctrlMalformedRsvd6 v
  else if v.getLsbD 7 then .wrctrlMalformedRsvd7 v
  else if v.getLsbD 8 then .wrctrlMalformedRsvd8 v
  else if v.getLsbD 9 then .wrctrlMalformedRsvd9 v
  else if v.getLsbD 10 then .wrctrlMalformedRsvd10 v
  else if v.getLsbD 11 then .wrctrlMalformedRsvd11 v
  else if v.getLsbD 12 then .wrctrlMalformedRsvd12 v
  else if v.getLsbD 13 then .wrctrlMalformedRsvd13 v
  else if v.getLsbD 14 then .wrctrlMalformedRsvd14 v
  else if v.getLsbD 15 then .wrctrlMalformedRsvd15 v
  else if v.getLsbD 16 then .wrctrlMalformedRsvd16 v
  else if v.getLsbD 17 then .wrctrlMalformedRsvd17 v
  else if v.getLsbD 18 then .wrctrlMalformedRsvd18 v
  else if v.getLsbD 19 then .wrctrlMalformedRsvd19 v
  else if v.getLsbD 20 then .wrctrlMalformedRsvd20 v
  else if v.getLsbD 21 then .wrctrlMalformedRsvd21 v
  else if v.getLsbD 22 then .wrctrlMalformedRsvd22 v
  else if v.getLsbD 23 then .wrctrlMalformedRsvd23 v
  else if v.getLsbD 24 then .wrctrlMalformedRsvd24 v
  else if v.getLsbD 25 then .wrctrlMalformedRsvd25 v
  else if v.getLsbD 26 then .wrctrlMalformedRsvd26 v
  else if v.getLsbD 27 then .wrctrlMalformedRsvd27 v
  else if v.getLsbD 28 then .wrctrlMalformedRsvd28 v
  else if v.getLsbD 29 then .wrctrlMalformedRsvd29 v
  else if v.getLsbD 30 then .wrctrlMalformedRsvd30 v
  else .wrctrlMalformedRsvd31 v

/-- A write of the word `v` to CTRL: six well-formed commands, every other word malformed (R84 to R86). -/
def decodeCtrl (v : Word) : Instr :=
  if v = 0x00000000 then .nop
  else if v = 0x00000001 then .init
  else if v = 0x00000002 then .block
  else if v = 0x00000006 then .blockLast
  else if v = 0x00000003 then .initblock
  else if v = 0x00000007 then .initblockLast
  else if v = 0x00000004 then .wrctrlMalformed4
  else if v = 0x00000005 then .wrctrlMalformed5
  else decodeReserved v

/-- A write (WE = 1), by the bits of the address as R83 lists them. -/
def decodeWrite (addr : Addr) (v : Word) : Instr :=
  if addr = 0b000000 then decodeCtrl v
  else if addr = 0b000001 then .wrStatus v
  else if addr.extractLsb' 1 5 = 0b00001 then .wrRsvd02 (addr.extractLsb' 0 1) v
  else if addr.extractLsb' 2 4 = 0b0001 then .wrRsvd04 (addr.extractLsb' 0 2) v
  else if addr.extractLsb' 3 3 = 0b001 then .wrRsvd08 (addr.extractLsb' 0 3) v
  else if addr.extractLsb' 4 2 = 0b01 then .wrblk (addr.extractLsb' 0 4) v
  else if addr.extractLsb' 3 3 = 0b100 then .wrDigest (addr.extractLsb' 0 3) v
  else if addr.extractLsb' 3 3 = 0b101 then .wrRsvd28 (addr.extractLsb' 0 3) v
  else .wrRsvd30 (addr.extractLsb' 0 4) v

/-- A read (WE = 0), by the bits of the address as R83 lists them. -/
def decodeRead (addr : Addr) (x : Word) : Instr :=
  if addr = 0b000000 then .rdctrl x
  else if addr = 0b000001 then .rdstat x
  else if addr.extractLsb' 1 5 = 0b00001 then .rdRsvd02 (addr.extractLsb' 0 1) x
  else if addr.extractLsb' 2 4 = 0b0001 then .rdRsvd04 (addr.extractLsb' 0 2) x
  else if addr.extractLsb' 3 3 = 0b001 then .rdRsvd08 (addr.extractLsb' 0 3) x
  else if addr.extractLsb' 4 2 = 0b01 then .rdblk (addr.extractLsb' 0 4) x
  else if addr.extractLsb' 3 3 = 0b100 then .rddig (addr.extractLsb' 0 3) x
  else if addr.extractLsb' 3 3 = 0b101 then .rdRsvd28 (addr.extractLsb' 0 3) x
  else .rdRsvd30 (addr.extractLsb' 0 4) x

/-- The transaction a CIW stands for. RST has priority over everything; the decode is the same in every state (R82, R89). -/
def decode (w : Ciw) : Instr :=
  if w.rst then .reset w.we w.addr w.data
  else if w.we then decodeWrite w.addr w.data
  else decodeRead w.addr w.data

/-- Why a number is no transaction. -/
inductive DecodeError where
  /-- The number needs more than the 40 bits of a CIW ("every transaction is exactly one 40-bit CIW", R89). -/
  | widerThanCiw
  deriving DecidableEq, Repr

/-- Decoding of any number of bits. -/
def decodeBits (w : Nat) : Except DecodeError Instr :=
  if w < 2 ^ 40 then .ok (decode (BitVec.ofNat 40 w)) else .error .widerThanCiw

/-- The instruction of an opcode-table word of `nbits` bits: a CIW has no bytes and is numbered as the table numbers it, bits
above `nbits` are 0 (log entry 9). -/
def decodeTableWord (nbits w : Nat) : Option Instr :=
  match decodeBits (w % 2 ^ nbits) with
  | .ok i => some i
  | .error _ => none

/-! ## Encoding -/

/-- The CIW of a write of `v` to `addr`. -/
def writeCiw (addr : Addr) (v : Word) : Ciw := ciw false true addr v

/-- The CIW of a read of `addr` with DATA field `x`. -/
def readCiw (addr : Addr) (x : Word) : Ciw := ciw false false addr x

/-- The word of an instruction, from the `encoding` column of the opcode table. -/
def encode (i : Instr) : Ciw :=
  match i with
  | .reset we addr data => ciw true we addr data
  | .nop => writeCiw 0b000000 0x00000000
  | .init => writeCiw 0b000000 0x00000001
  | .block => writeCiw 0b000000 0x00000002
  | .blockLast => writeCiw 0b000000 0x00000006
  | .initblock => writeCiw 0b000000 0x00000003
  | .initblockLast => writeCiw 0b000000 0x00000007
  | .wrctrlMalformed4 => writeCiw 0b000000 0x00000004
  | .wrctrlMalformed5 => writeCiw 0b000000 0x00000005
  | .wrctrlMalformedRsvd3 v => writeCiw 0b000000 v
  | .wrctrlMalformedRsvd4 v => writeCiw 0b000000 v
  | .wrctrlMalformedRsvd5 v => writeCiw 0b000000 v
  | .wrctrlMalformedRsvd6 v => writeCiw 0b000000 v
  | .wrctrlMalformedRsvd7 v => writeCiw 0b000000 v
  | .wrctrlMalformedRsvd8 v => writeCiw 0b000000 v
  | .wrctrlMalformedRsvd9 v => writeCiw 0b000000 v
  | .wrctrlMalformedRsvd10 v => writeCiw 0b000000 v
  | .wrctrlMalformedRsvd11 v => writeCiw 0b000000 v
  | .wrctrlMalformedRsvd12 v => writeCiw 0b000000 v
  | .wrctrlMalformedRsvd13 v => writeCiw 0b000000 v
  | .wrctrlMalformedRsvd14 v => writeCiw 0b000000 v
  | .wrctrlMalformedRsvd15 v => writeCiw 0b000000 v
  | .wrctrlMalformedRsvd16 v => writeCiw 0b000000 v
  | .wrctrlMalformedRsvd17 v => writeCiw 0b000000 v
  | .wrctrlMalformedRsvd18 v => writeCiw 0b000000 v
  | .wrctrlMalformedRsvd19 v => writeCiw 0b000000 v
  | .wrctrlMalformedRsvd20 v => writeCiw 0b000000 v
  | .wrctrlMalformedRsvd21 v => writeCiw 0b000000 v
  | .wrctrlMalformedRsvd22 v => writeCiw 0b000000 v
  | .wrctrlMalformedRsvd23 v => writeCiw 0b000000 v
  | .wrctrlMalformedRsvd24 v => writeCiw 0b000000 v
  | .wrctrlMalformedRsvd25 v => writeCiw 0b000000 v
  | .wrctrlMalformedRsvd26 v => writeCiw 0b000000 v
  | .wrctrlMalformedRsvd27 v => writeCiw 0b000000 v
  | .wrctrlMalformedRsvd28 v => writeCiw 0b000000 v
  | .wrctrlMalformedRsvd29 v => writeCiw 0b000000 v
  | .wrctrlMalformedRsvd30 v => writeCiw 0b000000 v
  | .wrctrlMalformedRsvd31 v => writeCiw 0b000000 v
  | .wrblk i v => writeCiw (0b01#2 ++ i) v
  | .wrStatus v => writeCiw 0b000001 v
  | .wrDigest j v => writeCiw (0b100#3 ++ j) v
  | .wrRsvd02 a v => writeCiw (0b00001#5 ++ a) v
  | .wrRsvd04 a v => writeCiw (0b0001#4 ++ a) v
  | .wrRsvd08 a v => writeCiw (0b001#3 ++ a) v
  | .wrRsvd28 a v => writeCiw (0b101#3 ++ a) v
  | .wrRsvd30 a v => writeCiw (0b11#2 ++ a) v
  | .rdctrl x => readCiw 0b000000 x
  | .rdstat x => readCiw 0b000001 x
  | .rdblk i x => readCiw (0b01#2 ++ i) x
  | .rddig j x => readCiw (0b100#3 ++ j) x
  | .rdRsvd02 a x => readCiw (0b00001#5 ++ a) x
  | .rdRsvd04 a x => readCiw (0b0001#4 ++ a) x
  | .rdRsvd08 a x => readCiw (0b001#3 ++ a) x
  | .rdRsvd28 a x => readCiw (0b101#3 ++ a) x
  | .rdRsvd30 a x => readCiw (0b11#2 ++ a) x

/-! ## The opcode table -/

/-- A row of spec/opcode_table.json: a CIW belongs to it when `CIW &&& mask = pattern` (30_encoding.md, introduction). -/
structure TableRow where
  mnemonic : String
  mask : Ciw
  pattern : Ciw
  deriving DecidableEq, Repr

/-- The row's class of CIWs. -/
def TableRow.holds (r : TableRow) (w : Ciw) : Bool := w &&& r.mask == r.pattern

/-- `reset`, the six commands and the two malformed words below 8. -/
def commandRows : List TableRow := [
  ⟨"reset", 0x8000000000, 0x8000000000⟩,
  ⟨"nop", 0xffffffffff, 0x4000000000⟩,
  ⟨"init", 0xffffffffff, 0x4000000001⟩,
  ⟨"block", 0xffffffffff, 0x4000000002⟩,
  ⟨"block.last", 0xffffffffff, 0x4000000006⟩,
  ⟨"initblock", 0xffffffffff, 0x4000000003⟩,
  ⟨"initblock.last", 0xffffffffff, 0x4000000007⟩,
  ⟨"wrctrl.malformed.0x4", 0xffffffffff, 0x4000000004⟩,
  ⟨"wrctrl.malformed.0x5", 0xffffffffff, 0x4000000005⟩]

/-- The 29 rows `wrctrl.malformed.rsvdK`, which overlap one another. -/
def reservedBitRows : List TableRow := [
  ⟨"wrctrl.malformed.rsvd3", 0xff00000008, 0x4000000008⟩,
  ⟨"wrctrl.malformed.rsvd4", 0xff00000010, 0x4000000010⟩,
  ⟨"wrctrl.malformed.rsvd5", 0xff00000020, 0x4000000020⟩,
  ⟨"wrctrl.malformed.rsvd6", 0xff00000040, 0x4000000040⟩,
  ⟨"wrctrl.malformed.rsvd7", 0xff00000080, 0x4000000080⟩,
  ⟨"wrctrl.malformed.rsvd8", 0xff00000100, 0x4000000100⟩,
  ⟨"wrctrl.malformed.rsvd9", 0xff00000200, 0x4000000200⟩,
  ⟨"wrctrl.malformed.rsvd10", 0xff00000400, 0x4000000400⟩,
  ⟨"wrctrl.malformed.rsvd11", 0xff00000800, 0x4000000800⟩,
  ⟨"wrctrl.malformed.rsvd12", 0xff00001000, 0x4000001000⟩,
  ⟨"wrctrl.malformed.rsvd13", 0xff00002000, 0x4000002000⟩,
  ⟨"wrctrl.malformed.rsvd14", 0xff00004000, 0x4000004000⟩,
  ⟨"wrctrl.malformed.rsvd15", 0xff00008000, 0x4000008000⟩,
  ⟨"wrctrl.malformed.rsvd16", 0xff00010000, 0x4000010000⟩,
  ⟨"wrctrl.malformed.rsvd17", 0xff00020000, 0x4000020000⟩,
  ⟨"wrctrl.malformed.rsvd18", 0xff00040000, 0x4000040000⟩,
  ⟨"wrctrl.malformed.rsvd19", 0xff00080000, 0x4000080000⟩,
  ⟨"wrctrl.malformed.rsvd20", 0xff00100000, 0x4000100000⟩,
  ⟨"wrctrl.malformed.rsvd21", 0xff00200000, 0x4000200000⟩,
  ⟨"wrctrl.malformed.rsvd22", 0xff00400000, 0x4000400000⟩,
  ⟨"wrctrl.malformed.rsvd23", 0xff00800000, 0x4000800000⟩,
  ⟨"wrctrl.malformed.rsvd24", 0xff01000000, 0x4001000000⟩,
  ⟨"wrctrl.malformed.rsvd25", 0xff02000000, 0x4002000000⟩,
  ⟨"wrctrl.malformed.rsvd26", 0xff04000000, 0x4004000000⟩,
  ⟨"wrctrl.malformed.rsvd27", 0xff08000000, 0x4008000000⟩,
  ⟨"wrctrl.malformed.rsvd28", 0xff10000000, 0x4010000000⟩,
  ⟨"wrctrl.malformed.rsvd29", 0xff20000000, 0x4020000000⟩,
  ⟨"wrctrl.malformed.rsvd30", 0xff40000000, 0x4040000000⟩,
  ⟨"wrctrl.malformed.rsvd31", 0xff80000000, 0x4080000000⟩]

/-- `wrblk` and the writes to read-only and reserved addresses. -/
def writeRows : List TableRow := [
  ⟨"wrblk", 0xf000000000, 0x5000000000⟩,
  ⟨"wr.status", 0xff00000000, 0x4100000000⟩,
  ⟨"wr.digest", 0xf800000000, 0x6000000000⟩,
  ⟨"wr.rsvd.0x02", 0xfe00000000, 0x4200000000⟩,
  ⟨"wr.rsvd.0x04", 0xfc00000000, 0x4400000000⟩,
  ⟨"wr.rsvd.0x08", 0xf800000000, 0x4800000000⟩,
  ⟨"wr.rsvd.0x28", 0xf800000000, 0x6800000000⟩,
  ⟨"wr.rsvd.0x30", 0xf000000000, 0x7000000000⟩]

/-- The reads. -/
def readRows : List TableRow := [
  ⟨"rdctrl", 0xff00000000, 0x0000000000⟩,
  ⟨"rdstat", 0xff00000000, 0x0100000000⟩,
  ⟨"rdblk", 0xf000000000, 0x1000000000⟩,
  ⟨"rddig", 0xf800000000, 0x2000000000⟩,
  ⟨"rd.rsvd.0x02", 0xfe00000000, 0x0200000000⟩,
  ⟨"rd.rsvd.0x04", 0xfc00000000, 0x0400000000⟩,
  ⟨"rd.rsvd.0x08", 0xf800000000, 0x0800000000⟩,
  ⟨"rd.rsvd.0x28", 0xf800000000, 0x2800000000⟩,
  ⟨"rd.rsvd.0x30", 0xf000000000, 0x3000000000⟩]

/-- All 55 rows, in the table's order. -/
def opcodeTable : List TableRow := commandRows ++ reservedBitRows ++ writeRows ++ readRows

/-- The table's mnemonic of an instruction. -/
def Instr.mnemonic (i : Instr) : String :=
  match i with
  | .reset _ _ _ => "reset"
  | .nop => "nop"
  | .init => "init"
  | .block => "block"
  | .blockLast => "block.last"
  | .initblock => "initblock"
  | .initblockLast => "initblock.last"
  | .wrctrlMalformed4 => "wrctrl.malformed.0x4"
  | .wrctrlMalformed5 => "wrctrl.malformed.0x5"
  | .wrctrlMalformedRsvd3 _ => "wrctrl.malformed.rsvd3"
  | .wrctrlMalformedRsvd4 _ => "wrctrl.malformed.rsvd4"
  | .wrctrlMalformedRsvd5 _ => "wrctrl.malformed.rsvd5"
  | .wrctrlMalformedRsvd6 _ => "wrctrl.malformed.rsvd6"
  | .wrctrlMalformedRsvd7 _ => "wrctrl.malformed.rsvd7"
  | .wrctrlMalformedRsvd8 _ => "wrctrl.malformed.rsvd8"
  | .wrctrlMalformedRsvd9 _ => "wrctrl.malformed.rsvd9"
  | .wrctrlMalformedRsvd10 _ => "wrctrl.malformed.rsvd10"
  | .wrctrlMalformedRsvd11 _ => "wrctrl.malformed.rsvd11"
  | .wrctrlMalformedRsvd12 _ => "wrctrl.malformed.rsvd12"
  | .wrctrlMalformedRsvd13 _ => "wrctrl.malformed.rsvd13"
  | .wrctrlMalformedRsvd14 _ => "wrctrl.malformed.rsvd14"
  | .wrctrlMalformedRsvd15 _ => "wrctrl.malformed.rsvd15"
  | .wrctrlMalformedRsvd16 _ => "wrctrl.malformed.rsvd16"
  | .wrctrlMalformedRsvd17 _ => "wrctrl.malformed.rsvd17"
  | .wrctrlMalformedRsvd18 _ => "wrctrl.malformed.rsvd18"
  | .wrctrlMalformedRsvd19 _ => "wrctrl.malformed.rsvd19"
  | .wrctrlMalformedRsvd20 _ => "wrctrl.malformed.rsvd20"
  | .wrctrlMalformedRsvd21 _ => "wrctrl.malformed.rsvd21"
  | .wrctrlMalformedRsvd22 _ => "wrctrl.malformed.rsvd22"
  | .wrctrlMalformedRsvd23 _ => "wrctrl.malformed.rsvd23"
  | .wrctrlMalformedRsvd24 _ => "wrctrl.malformed.rsvd24"
  | .wrctrlMalformedRsvd25 _ => "wrctrl.malformed.rsvd25"
  | .wrctrlMalformedRsvd26 _ => "wrctrl.malformed.rsvd26"
  | .wrctrlMalformedRsvd27 _ => "wrctrl.malformed.rsvd27"
  | .wrctrlMalformedRsvd28 _ => "wrctrl.malformed.rsvd28"
  | .wrctrlMalformedRsvd29 _ => "wrctrl.malformed.rsvd29"
  | .wrctrlMalformedRsvd30 _ => "wrctrl.malformed.rsvd30"
  | .wrctrlMalformedRsvd31 _ => "wrctrl.malformed.rsvd31"
  | .wrblk _ _ => "wrblk"
  | .wrStatus _ => "wr.status"
  | .wrDigest _ _ => "wr.digest"
  | .wrRsvd02 _ _ => "wr.rsvd.0x02"
  | .wrRsvd04 _ _ => "wr.rsvd.0x04"
  | .wrRsvd08 _ _ => "wr.rsvd.0x08"
  | .wrRsvd28 _ _ => "wr.rsvd.0x28"
  | .wrRsvd30 _ _ => "wr.rsvd.0x30"
  | .rdctrl _ => "rdctrl"
  | .rdstat _ => "rdstat"
  | .rdblk _ _ => "rdblk"
  | .rddig _ _ => "rddig"
  | .rdRsvd02 _ _ => "rd.rsvd.0x02"
  | .rdRsvd04 _ _ => "rd.rsvd.0x04"
  | .rdRsvd08 _ _ => "rd.rsvd.0x08"
  | .rdRsvd28 _ _ => "rd.rsvd.0x28"
  | .rdRsvd30 _ _ => "rd.rsvd.0x30"

end Sys2Proof
end

