-- ==== Sys2Proof/Machine/State.lean ====
section
/-! DEFINITION. The state of the machine: the tuple of 10_state.md R20, and beside it what the host drives into and samples
from the ports. The reasons a step could stop. Plain data throughout. -/

namespace Sys2Proof.Machine

/-- The sequencer state (R31); its binary encoding is not specified (log entry 7). -/
inductive Fsm where
  /-- No block in progress; commands are accepted. -/
  | IDLE
  /-- Round t of the current block is performed at the next edge. -/
  | ROUND
  /-- The state update is performed at the next edge. -/
  | UPDATE
  deriving DecidableEq, Repr

/-- The source's two logical states (R33). -/
inductive Phase where
  | ACCEPTING
  | FINALIZED
  deriving DecidableEq, Repr

/-- The working registers a..h, also named R[0..8) in this order (R24, R25). -/
structure Working where
  a : Word
  b : Word
  c : Word
  d : Word
  e : Word
  f : Word
  g : Word
  h : Word
  deriving DecidableEq, Repr

/-- The state of the core: the elements of the table in 10_state.md R20 "and nothing else", under the spec's names. -/
structure CoreState where
  /-- Hash state H[0..8) (R23). -/
  H : Hash
  /-- Working registers a..h (R24). -/
  work : Working
  /-- Block buffer BLK[0..16) (R26). -/
  BLK : Block
  /-- Schedule window Wwin[0..16) (R27). -/
  Wwin : Block
  /-- Round counter (R29). -/
  t : BitVec 6
  /-- Sequencer state (R31). -/
  fsm : Fsm
  /-- The block in progress is the last one (R32). -/
  last : Bool
  /-- ACCEPTING or FINALIZED (R33). -/
  phase : Phase
  /-- H holds a chaining value of at least one completed block (R34). -/
  valid : Bool
  /-- A write was rejected since the last reset, init or initblock (R35). -/
  err : Bool
  /-- The code of the first such write (R35). -/
  errcode : BitVec 4
  deriving DecidableEq, Repr

/-- The state after an edge with rst = 1, element by element (R43). -/
def CoreState.reset : CoreState where
  H := IV
  work := ⟨0, 0, 0, 0, 0, 0, 0, 0⟩
  BLK := Vector.replicate 16 0
  Wwin := Vector.replicate 16 0
  t := 0
  fsm := .IDLE
  last := false
  phase := .ACCEPTING
  valid := false
  err := false
  errcode := 0

/-- The machine: the core, and the model's own two fields for its ports, since a step of Host.Core takes no input. -/
structure State where
  /-- The core's state (R20). -/
  core : CoreState
  /-- The CIWs the host is still to present, one an edge, the next one first (R80; log entry 1). -/
  inputs : List Ciw
  /-- The word the output port rdata showed in the cycle that the last edge ended (R22, R191; log entry 3). -/
  rdata : Word
  deriving DecidableEq, Repr

/-- The machine right after reset: the core as R43 says, no host program loaded (log entry 1), nothing sampled (the 0 in
`rdata` is log entry 3's choice). -/
def State.reset : State where
  core := CoreState.reset
  inputs := []
  rdata := 0

/-- Why a step stops with a fault. EMPTY, so nobody raises one: the core has no trap and no fault, and its step is total
(60_exceptions.md R230, R239; 44_host_interface.md R190). A rejected write is a next state with an error record. Safe: there
is nothing to stop on. -/
inductive Fault where
  deriving DecidableEq, Repr

/-- Why an instruction has no meaning. -/
inductive Refusal where
  /-- The instruction has no meaning yet. Asked for by the host interface; no arm of exec raises it. Safe: a stop. -/
  | notModelled (mnemonic : String)
  deriving DecidableEq, Repr

end Sys2Proof.Machine
end

