-- ==== Sys2Proof/Machine/Compression.lean ====
section
/-! DEFINITION. The compression function as the source defines it (43_compression.md R170, R172) and the hardware's three
edges LOAD, ROUND and UPDATE (R171, R173, R175). Each edge reads the state `s` before the edge only. -/

namespace Sys2Proof.Machine

/-- The round's first temporary, T1 (R172). -/
def roundT1 (t : BitVec 6) (r : Working) (w : Word) : Word :=
  r.h + bigSigma1 r.e + Ch r.e r.f r.g + K t + w

/-- The round's second temporary, T2 (R172). -/
def roundT2 (r : Working) : Word := bigSigma0 r.a + Maj r.a r.b r.c

/-- round(t, (a..h), w), all assignments simultaneous (R172). -/
def roundStep (t : BitVec 6) (r : Working) (w : Word) : Working where
  a := roundT1 t r w + roundT2 r
  b := r.a
  c := r.b
  d := r.c
  e := r.d + roundT1 t r w
  f := r.e
  g := r.f
  h := r.g

/-- a..h set from an 8-word source, R[i] from src[i] (R25, R171). -/
def Working.ofHash (src : Hash) : Working :=
  ⟨src[0], src[1], src[2], src[3], src[4], src[5], src[6], src[7]⟩

/-- R[i] added into H[i], modulo 2^32 each (R25, R170, R175). -/
def addBack (H : Hash) (r : Working) : Hash := #v[
  H[0] + r.a, H[1] + r.b, H[2] + r.c, H[3] + r.d, H[4] + r.e, H[5] + r.f, H[6] + r.g, H[7] + r.h]

/-- a..h after the first n rounds of block M from r (the loop of R170). -/
def rounds (M : Block) (r : Working) : Nat → Working
  | 0 => r
  | n + 1 => roundStep (BitVec.ofNat 6 n) (rounds M r n) (schedule M n)

/-- compress(H, M) (R170). -/
def compress (H : Hash) (M : Block) : Hash := addBack H (rounds M (Working.ofHash H) 64)

/-- LOAD(src): the core's side of an accepted BLOCK or INIT_BLOCK command (R171, R152), written into `n`. -/
def loadBlock (src : Hash) (s n : CoreState) : CoreState :=
  { n with work := Working.ofHash src, Wwin := s.BLK, t := 0, fsm := .ROUND }

/-- ROUND (R173): one round with K[t] and W[t] = Wwin[0], one window step, and the counter. -/
def roundEdge (s : CoreState) : CoreState :=
  { s with
    work := roundStep s.t s.work s.Wwin[0]
    Wwin := windowStep s.Wwin
    t := if s.t = 63 then 0 else s.t + 1
    fsm := if s.t = 63 then .UPDATE else .ROUND }

/-- UPDATE (R175): a..h, Wwin and t are not written. -/
def updateEdge (s : CoreState) : CoreState :=
  { s with
    H := addBack s.H s.work
    fsm := .IDLE
    valid := true
    phase := if s.last then .FINALIZED else s.phase
    last := false }

/-- The core's own part of a step with rst = 0 (R190), which no host transaction influences (R92). -/
def coreEdge (s : CoreState) : CoreState :=
  match s.fsm with
  | .IDLE => s
  | .ROUND => roundEdge s
  | .UPDATE => updateEdge s

end Sys2Proof.Machine
end

