-- ==== Sys2Proof/Machine/Flags.lean ====
section
/-! DEFINITION. The status fields, the core's only flags (10_state.md R36, R40), and the error codes (60_exceptions.md R231). -/

namespace Sys2Proof.Machine

/-- STATUS.READY and the output port `ready`: fsm = IDLE (R31, R36, R206). -/
def CoreState.ready (s : CoreState) : Bool := s.fsm == .IDLE

/-- STATUS.FINAL: phase = FINALIZED (R33, R36). -/
def CoreState.final (s : CoreState) : Bool := s.phase == .FINALIZED

/-- STATUS = {24'b0, errcode[3:0], err, FINAL, valid, READY} (R36, R192). -/
def statusWord (s : CoreState) : Word :=
  0#24 ++ s.errcode ++ BitVec.ofBool s.err ++ BitVec.ofBool s.final ++ BitVec.ofBool s.valid ++ BitVec.ofBool s.ready

/-- The causes of a rejected write (R231). -/
inductive ErrCode where
  /-- A well-formed command other than nop while fsm ≠ IDLE. -/
  | ERR_BUSY
  /-- block or block.last while FINALIZED. -/
  | ERR_FINAL
  /-- A malformed command word. -/
  | ERR_CTRL
  /-- A write to STATUS, DIGEST or a reserved address. -/
  | ERR_ADDR
  deriving DecidableEq, Repr

/-- The STATUS.ERRCODE value of a cause (R231). -/
def ErrCode.bits (c : ErrCode) : BitVec 4 :=
  match c with
  | .ERR_BUSY => 1
  | .ERR_FINAL => 2
  | .ERR_CTRL => 3
  | .ERR_ADDR => 4

end Sys2Proof.Machine
end

