-- ==== Sys2Proof/Machine/Operands.lean ====
section
/-! DEFINITION. The operand forms: the host register space (20_memory.md R56 to R60, 30_encoding.md R83, R87) and what a read
of each address returns (44_host_interface.md R191 to R195). -/

namespace Sys2Proof.Machine

/-- Address of CTRL (R57). -/
def CTRL : Addr := 0x00

/-- Address of STATUS (R57). -/
def STATUS : Addr := 0x01

/-- Address of BLK[i], 0x10 + i: the bits 01iiii (R57, R83). -/
def blkAddr (i : BitVec 4) : Addr := 0b01#2 ++ i

/-- Address of DIGEST[j], 0x20 + j: the bits 100jjj (R57, R83). -/
def digestAddr (j : BitVec 3) : Addr := 0b100#3 ++ j

/-- What an address names (R57). -/
inductive Target where
  | ctrl
  | status
  | blk (i : BitVec 4)
  | digest (j : BitVec 3)
  | reserved
  deriving DecidableEq, Repr

/-- The address map (R57): 0x00, 0x01, 0x10..0x1F and 0x20..0x27 are registers, the rest is reserved. -/
def target (a : Addr) : Target :=
  if a = 0x00 then .ctrl
  else if a = 0x01 then .status
  else if 0x10 ≤ a ∧ a ≤ 0x1F then .blk (a.extractLsb' 0 4)
  else if 0x20 ≤ a ∧ a ≤ 0x27 then .digest (a.extractLsb' 0 3)
  else .reserved

/-- BLK[i]. -/
def readBLK (s : CoreState) (i : BitVec 4) : Word := s.BLK[i.toNat]'i.isLt

/-- `n.BLK[i] <- v` (R196). -/
def writeBLK (i : BitVec 4) (v : Word) (n : CoreState) : CoreState :=
  { n with BLK := n.BLK.set i.toNat v i.isLt }

/-- DIGEST[j] reads H[j] (R38, R194). -/
def readDIGEST (s : CoreState) (j : BitVec 3) : Word := s.H[j.toNat]'j.isLt

/-- read(s, addr): the port rdata as a function of the state and the address, whatever the transaction (R191); CTRL and
reserved addresses read 0 (R60, R195). -/
def readData (s : CoreState) (a : Addr) : Word :=
  match target a with
  | .ctrl => 0
  | .status => statusWord s
  | .blk i => readBLK s i
  | .digest j => readDIGEST s j
  | .reserved => 0

end Sys2Proof.Machine
end

