-- ==== Sys2Proof/Machine/Ops.lean ====
section
/-! DEFINITION. The shared operations of the meanings: recording an error, the command bodies, and the edge itself, with its
core part and its host part (44_host_interface.md R190). A host part is given the state `s` before the edge, which is all it
reads, and the state `n` that the core part has already written; the two never write the same element (20_memory.md R64). -/

namespace Sys2Proof.Machine

/-- `raise E(code)` (R233): the first rejected write is recorded, later ones leave the record as it is. This is all that a
rejected write does (R230); the core has no trap to enter or return from (R239). -/
def raise (code : ErrCode) (s n : CoreState) : CoreState :=
  if s.err then n else { n with err := true, errcode := code.bits }

/-- The body of INIT (R198). -/
def initCommand (s n : CoreState) : CoreState :=
  if s.fsm ≠ .IDLE then raise .ERR_BUSY s n
  else { n with H := IV, valid := false, phase := .ACCEPTING, err := false, errcode := 0 }

/-- The body of BLOCK, with its LAST bit (R199, R200). -/
def blockCommand (last : Bool) (s n : CoreState) : CoreState :=
  if s.fsm ≠ .IDLE then raise .ERR_BUSY s n
  else if s.phase = .FINALIZED then raise .ERR_FINAL s n
  else { loadBlock s.H s n with valid := false, last := last }

/-- The body of INIT_BLOCK, with its LAST bit (R201, R202). -/
def initblockCommand (last : Bool) (s n : CoreState) : CoreState :=
  if s.fsm ≠ .IDLE then raise .ERR_BUSY s n
  else { loadBlock IV s n with
    H := IV, valid := false, phase := .ACCEPTING, last := last, err := false, errcode := 0 }

/-- An edge with rst = 0 and we = 1 at `addr`: core part, then the host part `host s n` (R190). The port rdata showed
read(s, addr) of the state before the edge (R191). -/
def writeEdge (addr : Addr) (host : CoreState → CoreState → CoreState) (s : State) : Host.Outcome State Fault Refusal :=
  .next { s with core := host s.core (coreEdge s.core), rdata := readData s.core addr }

/-- An edge with rst = 0 and we = 0 on which the port rdata showed `v`: the host part does nothing (R190). -/
def readEdge (v : Word) (s : State) : Host.Outcome State Fault Refusal :=
  .next { s with core := coreEdge s.core, rdata := v }

/-- The CIW presented at the next edge; a host whose list is used up idles (log entry 2). -/
def State.nextInput (s : State) : Ciw :=
  match s.inputs with
  | [] => idleCiw
  | w :: _ => w

/-- The state in which the next CIW has been taken from the list. -/
def State.takeInput (s : State) : State := { s with inputs := s.inputs.tail }

/-- The state in which `w` is what the host presents at the next edge, in place of what it would have presented (log entry
9). -/
def State.presentNext (s : State) (w : Ciw) : State := { s with inputs := w :: s.inputs.tail }

end Sys2Proof.Machine
end

