-- ==== Sys2Proof/Machine/Commands.lean ====
section
/-! DEFINITION. The six well-formed commands (30_encoding.md R85; 44_host_interface.md R197 to R202). -/

namespace Sys2Proof.Machine

/-- `nop`: nothing, in any state (R197). -/
def execNop (s : State) : Host.Outcome State Fault Refusal :=
  writeEdge CTRL (fun _ n => n) s

/-- `init`: start a new hash computation (R198). -/
def execInit (s : State) : Host.Outcome State Fault Refusal :=
  writeEdge CTRL initCommand s

/-- `block`: compress BLK into H, more blocks to follow (R199). -/
def execBlock (s : State) : Host.Outcome State Fault Refusal :=
  writeEdge CTRL (blockCommand false) s

/-- `block.last`: compress BLK into H as the last block (R200). -/
def execBlockLast (s : State) : Host.Outcome State Fault Refusal :=
  writeEdge CTRL (blockCommand true) s

/-- `initblock`: start a new hash computation and compress BLK as its first block (R201). -/
def execInitblock (s : State) : Host.Outcome State Fault Refusal :=
  writeEdge CTRL (initblockCommand false) s

/-- `initblock.last`: hash a one-block message (R202). -/
def execInitblockLast (s : State) : Host.Outcome State Fault Refusal :=
  writeEdge CTRL (initblockCommand true) s

end Sys2Proof.Machine
end

