-- ==== Sys2Proof/Machine/Malformed.lean ====
section
/-! DEFINITION. Malformed command words (44_host_interface.md R203, 30_encoding.md R86): 0x4, 0x5 and every word with a
reserved bit set. Each is `raise ERR_CTRL` in every state, before and regardless of the busy and finalized checks, and
nothing else is written by the host part; the core's own part of the edge proceeds (60_exceptions.md R230). -/

namespace Sys2Proof.Machine

/-- `wrctrl.malformed.0x4`: ERR_CTRL (R203). -/
def execWrctrlMalformed4 (s : State) : Host.Outcome State Fault Refusal :=
  writeEdge CTRL (raise .ERR_CTRL) s

/-- `wrctrl.malformed.0x5`: ERR_CTRL (R203). -/
def execWrctrlMalformed5 (s : State) : Host.Outcome State Fault Refusal :=
  writeEdge CTRL (raise .ERR_CTRL) s

/-- `wrctrl.malformed.rsvd3`: ERR_CTRL (R203). -/
def execWrctrlMalformedRsvd3 (_v : Word) (s : State) : Host.Outcome State Fault Refusal :=
  writeEdge CTRL (raise .ERR_CTRL) s

/-- `wrctrl.malformed.rsvd4`: ERR_CTRL (R203). -/
def execWrctrlMalformedRsvd4 (_v : Word) (s : State) : Host.Outcome State Fault Refusal :=
  writeEdge CTRL (raise .ERR_CTRL) s

/-- `wrctrl.malformed.rsvd5`: ERR_CTRL (R203). -/
def execWrctrlMalformedRsvd5 (_v : Word) (s : State) : Host.Outcome State Fault Refusal :=
  writeEdge CTRL (raise .ERR_CTRL) s

/-- `wrctrl.malformed.rsvd6`: ERR_CTRL (R203). -/
def execWrctrlMalformedRsvd6 (_v : Word) (s : State) : Host.Outcome State Fault Refusal :=
  writeEdge CTRL (raise .ERR_CTRL) s

/-- `wrctrl.malformed.rsvd7`: ERR_CTRL (R203). -/
def execWrctrlMalformedRsvd7 (_v : Word) (s : State) : Host.Outcome State Fault Refusal :=
  writeEdge CTRL (raise .ERR_CTRL) s

/-- `wrctrl.malformed.rsvd8`: ERR_CTRL (R203). -/
def execWrctrlMalformedRsvd8 (_v : Word) (s : State) : Host.Outcome State Fault Refusal :=
  writeEdge CTRL (raise .ERR_CTRL) s

/-- `wrctrl.malformed.rsvd9`: ERR_CTRL (R203). -/
def execWrctrlMalformedRsvd9 (_v : Word) (s : State) : Host.Outcome State Fault Refusal :=
  writeEdge CTRL (raise .ERR_CTRL) s

/-- `wrctrl.malformed.rsvd10`: ERR_CTRL (R203). -/
def execWrctrlMalformedRsvd10 (_v : Word) (s : State) : Host.Outcome State Fault Refusal :=
  writeEdge CTRL (raise .ERR_CTRL) s

/-- `wrctrl.malformed.rsvd11`: ERR_CTRL (R203). -/
def execWrctrlMalformedRsvd11 (_v : Word) (s : State) : Host.Outcome State Fault Refusal :=
  writeEdge CTRL (raise .ERR_CTRL) s

/-- `wrctrl.malformed.rsvd12`: ERR_CTRL (R203). -/
def execWrctrlMalformedRsvd12 (_v : Word) (s : State) : Host.Outcome State Fault Refusal :=
  writeEdge CTRL (raise .ERR_CTRL) s

/-- `wrctrl.malformed.rsvd13`: ERR_CTRL (R203). -/
def execWrctrlMalformedRsvd13 (_v : Word) (s : State) : Host.Outcome State Fault Refusal :=
  writeEdge CTRL (raise .ERR_CTRL) s

/-- `wrctrl.malformed.rsvd14`: ERR_CTRL (R203). -/
def execWrctrlMalformedRsvd14 (_v : Word) (s : State) : Host.Outcome State Fault Refusal :=
  writeEdge CTRL (raise .ERR_CTRL) s

/-- `wrctrl.malformed.rsvd15`: ERR_CTRL (R203). -/
def execWrctrlMalformedRsvd15 (_v : Word) (s : State) : Host.Outcome State Fault Refusal :=
  writeEdge CTRL (raise .ERR_CTRL) s

/-- `wrctrl.malformed.rsvd16`: ERR_CTRL (R203). -/
def execWrctrlMalformedRsvd16 (_v : Word) (s : State) : Host.Outcome State Fault Refusal :=
  writeEdge CTRL (raise .ERR_CTRL) s

/-- `wrctrl.malformed.rsvd17`: ERR_CTRL (R203). -/
def execWrctrlMalformedRsvd17 (_v : Word) (s : State) : Host.Outcome State Fault Refusal :=
  writeEdge CTRL (raise .ERR_CTRL) s

/-- `wrctrl.malformed.rsvd18`: ERR_CTRL (R203). -/
def execWrctrlMalformedRsvd18 (_v : Word) (s : State) : Host.Outcome State Fault Refusal :=
  writeEdge CTRL (raise .ERR_CTRL) s

/-- `wrctrl.malformed.rsvd19`: ERR_CTRL (R203). -/
def execWrctrlMalformedRsvd19 (_v : Word) (s : State) : Host.Outcome State Fault Refusal :=
  writeEdge CTRL (raise .ERR_CTRL) s

/-- `wrctrl.malformed.rsvd20`: ERR_CTRL (R203). -/
def execWrctrlMalformedRsvd20 (_v : Word) (s : State) : Host.Outcome State Fault Refusal :=
  writeEdge CTRL (raise .ERR_CTRL) s

/-- `wrctrl.malformed.rsvd21`: ERR_CTRL (R203). -/
def execWrctrlMalformedRsvd21 (_v : Word) (s : State) : Host.Outcome State Fault Refusal :=
  writeEdge CTRL (raise .ERR_CTRL) s

/-- `wrctrl.malformed.rsvd22`: ERR_CTRL (R203). -/
def execWrctrlMalformedRsvd22 (_v : Word) (s : State) : Host.Outcome State Fault Refusal :=
  writeEdge CTRL (raise .ERR_CTRL) s

/-- `wrctrl.malformed.rsvd23`: ERR_CTRL (R203). -/
def execWrctrlMalformedRsvd23 (_v : Word) (s : State) : Host.Outcome State Fault Refusal :=
  writeEdge CTRL (raise .ERR_CTRL) s

/-- `wrctrl.malformed.rsvd24`: ERR_CTRL (R203). -/
def execWrctrlMalformedRsvd24 (_v : Word) (s : State) : Host.Outcome State Fault Refusal :=
  writeEdge CTRL (raise .ERR_CTRL) s

/-- `wrctrl.malformed.rsvd25`: ERR_CTRL (R203). -/
def execWrctrlMalformedRsvd25 (_v : Word) (s : State) : Host.Outcome State Fault Refusal :=
  writeEdge CTRL (raise .ERR_CTRL) s

/-- `wrctrl.malformed.rsvd26`: ERR_CTRL (R203). -/
def execWrctrlMalformedRsvd26 (_v : Word) (s : State) : Host.Outcome State Fault Refusal :=
  writeEdge CTRL (raise .ERR_CTRL) s

/-- `wrctrl.malformed.rsvd27`: ERR_CTRL (R203). -/
def execWrctrlMalformedRsvd27 (_v : Word) (s : State) : Host.Outcome State Fault Refusal :=
  writeEdge CTRL (raise .ERR_CTRL) s

/-- `wrctrl.malformed.rsvd28`: ERR_CTRL (R203). -/
def execWrctrlMalformedRsvd28 (_v : Word) (s : State) : Host.Outcome State Fault Refusal :=
  writeEdge CTRL (raise .ERR_CTRL) s

/-- `wrctrl.malformed.rsvd29`: ERR_CTRL (R203). -/
def execWrctrlMalformedRsvd29 (_v : Word) (s : State) : Host.Outcome State Fault Refusal :=
  writeEdge CTRL (raise .ERR_CTRL) s

/-- `wrctrl.malformed.rsvd30`: ERR_CTRL (R203). -/
def execWrctrlMalformedRsvd30 (_v : Word) (s : State) : Host.Outcome State Fault Refusal :=
  writeEdge CTRL (raise .ERR_CTRL) s

/-- `wrctrl.malformed.rsvd31`: ERR_CTRL (R203). -/
def execWrctrlMalformedRsvd31 (_v : Word) (s : State) : Host.Outcome State Fault Refusal :=
  writeEdge CTRL (raise .ERR_CTRL) s

end Sys2Proof.Machine
end

