-- ==== Sys2Proof/Machine/Reads.lean ====
section
/-! DEFINITION. Reads (44_host_interface.md R192 to R195): the value on rdata, taken before the edge; nothing is written, so
the state changes by the core's own part only (R59, R190). The DATA field of a read has no effect (R82). -/

namespace Sys2Proof.Machine

/-- `rdctrl`: returns 0 (R195, R37). -/
def execRdctrl (_x : Word) (s : State) : Host.Outcome State Fault Refusal :=
  readEdge 0 s

/-- `rdstat`: returns STATUS (R192). -/
def execRdstat (_x : Word) (s : State) : Host.Outcome State Fault Refusal :=
  readEdge (statusWord s.core) s

/-- `rdblk i`: returns BLK[i] (R193). -/
def execRdblk (i : BitVec 4) (_x : Word) (s : State) : Host.Outcome State Fault Refusal :=
  readEdge (readBLK s.core i) s

/-- `rddig j`: returns H[j] (R194). -/
def execRddig (j : BitVec 3) (_x : Word) (s : State) : Host.Outcome State Fault Refusal :=
  readEdge (readDIGEST s.core j) s

/-- `rd` of a reserved address in 0x02..0x03: returns 0 (R195). -/
def execRdRsvd02 (_a : BitVec 1) (_x : Word) (s : State) : Host.Outcome State Fault Refusal :=
  readEdge 0 s

/-- `rd` of a reserved address in 0x04..0x07: returns 0 (R195). -/
def execRdRsvd04 (_a : BitVec 2) (_x : Word) (s : State) : Host.Outcome State Fault Refusal :=
  readEdge 0 s

/-- `rd` of a reserved address in 0x08..0x0F: returns 0 (R195). -/
def execRdRsvd08 (_a : BitVec 3) (_x : Word) (s : State) : Host.Outcome State Fault Refusal :=
  readEdge 0 s

/-- `rd` of a reserved address in 0x28..0x2F: returns 0 (R195). -/
def execRdRsvd28 (_a : BitVec 3) (_x : Word) (s : State) : Host.Outcome State Fault Refusal :=
  readEdge 0 s

/-- `rd` of a reserved address in 0x30..0x3F: returns 0 (R195). -/
def execRdRsvd30 (_a : BitVec 4) (_x : Word) (s : State) : Host.Outcome State Fault Refusal :=
  readEdge 0 s

end Sys2Proof.Machine
end

