-- ==== Sys2Proof/Machine/Reset.lean ====
section
/-! DEFINITION. The reset transaction (70_reset_and_hazards.md R260). -/

namespace Sys2Proof.Machine

/-- `reset` (R260, R190): the next state of the core is the reset state, whatever the state and whatever we, addr and wdata
are. In the reset cycle rdata still shows the state as it stands (R191). -/
def execReset (_we : Bool) (addr : Addr) (_data : Word) (s : State) : Host.Outcome State Fault Refusal :=
  .next { s with core := CoreState.reset, rdata := readData s.core addr }

end Sys2Proof.Machine
end

