-- ==== Sys2Proof/Machine/Writes.lean ====
section
/-! DEFINITION. Writes that are no commands: to the block buffer (44_host_interface.md R196), and to read-only and reserved
addresses, which are rejected with ERR_ADDR in every state (R204, 20_memory.md R60). -/

namespace Sys2Proof.Machine

/-- `wrblk i, v`: BLK[i] <- v in every state (R196). -/
def execWrblk (i : BitVec 4) (v : Word) (s : State) : Host.Outcome State Fault Refusal :=
  writeEdge (blkAddr i) (fun _ n => writeBLK i v n) s

/-- `wr STATUS, v`: ERR_ADDR (R204). -/
def execWrStatus (_v : Word) (s : State) : Host.Outcome State Fault Refusal :=
  writeEdge STATUS (raise .ERR_ADDR) s

/-- `wr DIGEST[j], v`: ERR_ADDR; H is never written through DIGEST (R204). -/
def execWrDigest (j : BitVec 3) (_v : Word) (s : State) : Host.Outcome State Fault Refusal :=
  writeEdge (digestAddr j) (raise .ERR_ADDR) s

/-- `wr` to a reserved address in 0x02..0x03: ERR_ADDR (R204). -/
def execWrRsvd02 (a : BitVec 1) (_v : Word) (s : State) : Host.Outcome State Fault Refusal :=
  writeEdge (0b00001#5 ++ a) (raise .ERR_ADDR) s

/-- `wr` to a reserved address in 0x04..0x07: ERR_ADDR (R204). -/
def execWrRsvd04 (a : BitVec 2) (_v : Word) (s : State) : Host.Outcome State Fault Refusal :=
  writeEdge (0b0001#4 ++ a) (raise .ERR_ADDR) s

/-- `wr` to a reserved address in 0x08..0x0F: ERR_ADDR (R204). -/
def execWrRsvd08 (a : BitVec 3) (_v : Word) (s : State) : Host.Outcome State Fault Refusal :=
  writeEdge (0b001#3 ++ a) (raise .ERR_ADDR) s

/-- `wr` to a reserved address in 0x28..0x2F: ERR_ADDR (R204). -/
def execWrRsvd28 (a : BitVec 3) (_v : Word) (s : State) : Host.Outcome State Fault Refusal :=
  writeEdge (0b101#3 ++ a) (raise .ERR_ADDR) s

/-- `wr` to a reserved address in 0x30..0x3F: ERR_ADDR (R204). -/
def execWrRsvd30 (a : BitVec 4) (_v : Word) (s : State) : Host.Outcome State Fault Refusal :=
  writeEdge (0b11#2 ++ a) (raise .ERR_ADDR) s

end Sys2Proof.Machine
end

