-- ==== Sys2Proof/Machine/Dispatch.lean ====
section
/-! DEFINITION. The dispatch: one arm per constructor of Instr, each a direct call of that instruction's meaning. -/

namespace Sys2Proof.Machine

def exec (i : Instr) (s : State) : Host.Outcome State Fault Refusal :=
  match i with
  | .reset we addr data => Sys2Proof.Machine.execReset we addr data s
  | .nop => Sys2Proof.Machine.execNop s
  | .init => Sys2Proof.Machine.execInit s
  | .block => Sys2Proof.Machine.execBlock s
  | .blockLast => Sys2Proof.Machine.execBlockLast s
  | .initblock => Sys2Proof.Machine.execInitblock s
  | .initblockLast => Sys2Proof.Machine.execInitblockLast s
  | .wrctrlMalformed4 => Sys2Proof.Machine.execWrctrlMalformed4 s
  | .wrctrlMalformed5 => Sys2Proof.Machine.execWrctrlMalformed5 s
  | .wrctrlMalformedRsvd3 v => Sys2Proof.Machine.execWrctrlMalformedRsvd3 v s
  | .wrctrlMalformedRsvd4 v => Sys2Proof.Machine.execWrctrlMalformedRsvd4 v s
  | .wrctrlMalformedRsvd5 v => Sys2Proof.Machine.execWrctrlMalformedRsvd5 v s
  | .wrctrlMalformedRsvd6 v => Sys2Proof.Machine.execWrctrlMalformedRsvd6 v s
  | .wrctrlMalformedRsvd7 v => Sys2Proof.Machine.execWrctrlMalformedRsvd7 v s
  | .wrctrlMalformedRsvd8 v => Sys2Proof.Machine.execWrctrlMalformedRsvd8 v s
  | .wrctrlMalformedRsvd9 v => Sys2Proof.Machine.execWrctrlMalformedRsvd9 v s
  | .wrctrlMalformedRsvd10 v => Sys2Proof.Machine.execWrctrlMalformedRsvd10 v s
  | .wrctrlMalformedRsvd11 v => Sys2Proof.Machine.execWrctrlMalformedRsvd11 v s
  | .wrctrlMalformedRsvd12 v => Sys2Proof.Machine.execWrctrlMalformedRsvd12 v s
  | .wrctrlMalformedRsvd13 v => Sys2Proof.Machine.execWrctrlMalformedRsvd13 v s
  | .wrctrlMalformedRsvd14 v => Sys2Proof.Machine.execWrctrlMalformedRsvd14 v s
  | .wrctrlMalformedRsvd15 v => Sys2Proof.Machine.execWrctrlMalformedRsvd15 v s
  | .wrctrlMalformedRsvd16 v => Sys2Proof.Machine.execWrctrlMalformedRsvd16 v s
  | .wrctrlMalformedRsvd17 v => Sys2Proof.Machine.execWrctrlMalformedRsvd17 v s
  | .wrctrlMalformedRsvd18 v => Sys2Proof.Machine.execWrctrlMalformedRsvd18 v s
  | .wrctrlMalformedRsvd19 v => Sys2Proof.Machine.execWrctrlMalformedRsvd19 v s
  | .wrctrlMalformedRsvd20 v => Sys2Proof.Machine.execWrctrlMalformedRsvd20 v s
  | .wrctrlMalformedRsvd21 v => Sys2Proof.Machine.execWrctrlMalformedRsvd21 v s
  | .wrctrlMalformedRsvd22 v => Sys2Proof.Machine.execWrctrlMalformedRsvd22 v s
  | .wrctrlMalformedRsvd23 v => Sys2Proof.Machine.execWrctrlMalformedRsvd23 v s
  | .wrctrlMalformedRsvd24 v => Sys2Proof.Machine.execWrctrlMalformedRsvd24 v s
  | .wrctrlMalformedRsvd25 v => Sys2Proof.Machine.execWrctrlMalformedRsvd25 v s
  | .wrctrlMalformedRsvd26 v => Sys2Proof.Machine.execWrctrlMalformedRsvd26 v s
  | .wrctrlMalformedRsvd27 v => Sys2Proof.Machine.execWrctrlMalformedRsvd27 v s
  | .wrctrlMalformedRsvd28 v => Sys2Proof.Machine.execWrctrlMalformedRsvd28 v s
  | .wrctrlMalformedRsvd29 v => Sys2Proof.Machine.execWrctrlMalformedRsvd29 v s
  | .wrctrlMalformedRsvd30 v => Sys2Proof.Machine.execWrctrlMalformedRsvd30 v s
  | .wrctrlMalformedRsvd31 v => Sys2Proof.Machine.execWrctrlMalformedRsvd31 v s
  | .wrblk k v => Sys2Proof.Machine.execWrblk k v s
  | .wrStatus v => Sys2Proof.Machine.execWrStatus v s
  | .wrDigest j v => Sys2Proof.Machine.execWrDigest j v s
  | .wrRsvd02 a v => Sys2Proof.Machine.execWrRsvd02 a v s
  | .wrRsvd04 a v => Sys2Proof.Machine.execWrRsvd04 a v s
  | .wrRsvd08 a v => Sys2Proof.Machine.execWrRsvd08 a v s
  | .wrRsvd28 a v => Sys2Proof.Machine.execWrRsvd28 a v s
  | .wrRsvd30 a v => Sys2Proof.Machine.execWrRsvd30 a v s
  | .rdctrl x => Sys2Proof.Machine.execRdctrl x s
  | .rdstat x => Sys2Proof.Machine.execRdstat x s
  | .rdblk k x => Sys2Proof.Machine.execRdblk k x s
  | .rddig j x => Sys2Proof.Machine.execRddig j x s
  | .rdRsvd02 a x => Sys2Proof.Machine.execRdRsvd02 a x s
  | .rdRsvd04 a x => Sys2Proof.Machine.execRdRsvd04 a x s
  | .rdRsvd08 a x => Sys2Proof.Machine.execRdRsvd08 a x s
  | .rdRsvd28 a x => Sys2Proof.Machine.execRdRsvd28 a x s
  | .rdRsvd30 a x => Sys2Proof.Machine.execRdRsvd30 a x s

end Sys2Proof.Machine
end

