-- ==== Sys2Proof/Machine/Step.lean ====
section
/-! DEFINITION. The step: one rising edge (10_state.md R21), at which the next CIW of the host's list is the input. -/

namespace Sys2Proof.Machine

/-- One rising edge: the transaction of the CIW the host presents is carried out, and the list moves on. -/
def step (s : State) : Host.Outcome State Fault Refusal :=
  exec (decode s.nextInput) s.takeInput

/-- `s` with the opcode-table word `w` of `nbits` bits as the next CIW (log entry 9). -/
def State.withFetchWord (s : State) (nbits w : Nat) : State :=
  s.presentNext (BitVec.ofNat 40 (w % 2 ^ nbits))

end Sys2Proof.Machine
end

