-- ==== Sys2Proof/Machine/Ports.lean ====
section
/-! DEFINITION. The core seen from its ports: the step as R190 writes it, by the values of rst, we, addr and wdata, and runs
over a list of CIWs. Host programs (Machine/Assembler.lean) and the claims speak of it; exec says the same by the decoded
transaction. -/

namespace Sys2Proof.Machine

/-- A malformed command word: 0x4, 0x5, or a reserved bit set (R86). -/
def malformed (v : Word) : Bool :=
  v == 0x4 || v == 0x5 || v.extractLsb' 3 29 != 0

/-- `command(s, n, v)` of R190, by the OP and LAST fields of the word (R84), the checks in R235's order. -/
def command (s n : CoreState) (v : Word) : CoreState :=
  if malformed v then raise .ERR_CTRL s n
  else
    let last := v.getLsbD 2
    let op : BitVec 2 := v.extractLsb' 0 2
    if op = 0b00 then n
    else if op = 0b01 then initCommand s n
    else if op = 0b10 then blockCommand last s n
    else initblockCommand last s n

/-- `step(s, rst, we, addr, wdata)` of R190: the core's next state as a function of its state and its input ports (R21). -/
def portStep (s : CoreState) (rst we : Bool) (addr : Addr) (wdata : Word) : CoreState :=
  if rst then CoreState.reset
  else
    let n := coreEdge s
    if we then
      match target addr with
      | .ctrl => command s n wdata
      | .blk i => writeBLK i wdata n
      | .status => raise .ERR_ADDR s n
      | .digest _ => raise .ERR_ADDR s n
      | .reserved => raise .ERR_ADDR s n
    else n

/-- The core's next state when the host presents `w`. -/
def ciwStep (s : CoreState) (w : Ciw) : CoreState := portStep s w.rst w.we w.addr w.data

/-- The core's state after the edges at which the host presents `ws`, in order (R80). -/
def ciwRun (s : CoreState) (ws : List Ciw) : CoreState := ws.foldl ciwStep s

end Sys2Proof.Machine
end

