-- ==== Sys2Proof/Machine/Assembler.lean ====
section
/-! DEFINITION. Host programs (30_encoding.md R90, R91): the statements of the assembler and the CIWs they stand for, one CIW
an edge. Of all statements only `waitready` depends on what the host reads, "the host's loop, not a core feature" (R91), so a
statement is expanded in the state in which the host comes to it. -/

namespace Sys2Proof.Machine

/-- BusRead(addr), the host's word read (00_scope.md R13). -/
def busRead (a : Addr) : Ciw := readCiw a 0

/-- BusWrite(addr, v), the host's word write (00_scope.md R13). -/
def busWrite (a : Addr) (v : Word) : Ciw := writeCiw a v

/-- A statement of a host program (R90, R91). -/
inductive Statement where
  | reset
  | nop
  | init
  | block
  | blockLast
  | initblock
  | initblockLast
  | wrctrl (v : Word)
  | wrblk (i : BitVec 4) (v : Word)
  /-- `wr a, v`. R90 writes it for a not 0x00 and not in 0x10..0x1F only; what it stands for at the other addresses is the
  model's choice (log entry 13). -/
  | wr (a : Addr) (v : Word)
  | rdctrl
  | rdstat
  | rdblk (i : BitVec 4)
  | rddig (j : BitVec 3)
  | rd (a : Addr)
  /-- `idle n`. -/
  | idle (n : Nat)
  /-- `loadblk w0, ..., w15`. -/
  | loadblk (M : Block)
  /-- `waitready`: read STATUS until READY. -/
  | waitready
  | rddigest
  deriving DecidableEq, Repr

/-- The sixteen `wrblk` of a `loadblk`, word 0 first (R91). -/
def loadblkCiws (M : Block) : List Ciw := [
  busWrite (blkAddr 0) M[0], busWrite (blkAddr 1) M[1], busWrite (blkAddr 2) M[2], busWrite (blkAddr 3) M[3],
  busWrite (blkAddr 4) M[4], busWrite (blkAddr 5) M[5], busWrite (blkAddr 6) M[6], busWrite (blkAddr 7) M[7],
  busWrite (blkAddr 8) M[8], busWrite (blkAddr 9) M[9], busWrite (blkAddr 10) M[10], busWrite (blkAddr 11) M[11],
  busWrite (blkAddr 12) M[12], busWrite (blkAddr 13) M[13], busWrite (blkAddr 14) M[14], busWrite (blkAddr 15) M[15]]

/-- The eight reads of a `rddigest` (R91). -/
def rddigestCiws : List Ciw := [
  busRead (digestAddr 0), busRead (digestAddr 1), busRead (digestAddr 2), busRead (digestAddr 3),
  busRead (digestAddr 4), busRead (digestAddr 5), busRead (digestAddr 6), busRead (digestAddr 7)]

/-- The reads of a `waitready` that begins in state `s`: `rdstat` until the value read has bit 0 = 1 (R91). `fuel` bounds
their number. -/
def waitreadyCiws (fuel : Nat) (s : CoreState) : List Ciw :=
  match fuel with
  | 0 => []
  | fuel + 1 =>
    busRead STATUS ::
      if (readData s STATUS).getLsbD 0 then [] else waitreadyCiws fuel (ciwStep s (busRead STATUS))

/-- The most reads a `waitready` makes: 65 with READY = 0, then one with READY = 1 (R270; log entry 12). -/
def waitreadyBound : Nat := 66

/-- The CIWs of a statement that the host comes to in state `s` (R90, R91). At the addresses that R90 excludes, `wr a, v` is
the CIW that its formula (0x40 + a)·2^32 + v gives (log entry 13). -/
def assemble (s : CoreState) (st : Statement) : List Ciw :=
  match st with
  | .reset => [0x8000000000]
  | .nop => [busWrite CTRL 0]
  | .init => [busWrite CTRL 1]
  | .block => [busWrite CTRL 2]
  | .blockLast => [busWrite CTRL 6]
  | .initblock => [busWrite CTRL 3]
  | .initblockLast => [busWrite CTRL 7]
  | .wrctrl v => [busWrite CTRL v]
  | .wrblk i v => [busWrite (blkAddr i) v]
  | .wr a v => [busWrite a v]
  | .rdctrl => [busRead CTRL]
  | .rdstat => [busRead STATUS]
  | .rdblk i => [busRead (blkAddr i)]
  | .rddig j => [busRead (digestAddr j)]
  | .rd a => [busRead a]
  | .idle n => List.replicate n idleCiw
  | .loadblk M => loadblkCiws M
  | .waitready => waitreadyCiws waitreadyBound s
  | .rddigest => rddigestCiws

/-- The CIWs of a host program that begins in state `s` (R80): each statement in the state its predecessors leave. -/
def assembleProgram (s : CoreState) (program : List Statement) : List Ciw :=
  match program with
  | [] => []
  | st :: rest => assemble s st ++ assembleProgram (ciwRun s (assemble s st)) rest

/-- The command for a block: `.last` on the last one, `initblock` for the first one (R205). -/
def blockCommandFor (first isLast : Bool) : Statement :=
  match first, isLast with
  | true, false => .initblock
  | true, true => .initblockLast
  | false, false => .block
  | false, true => .blockLast

/-- The loop of the host's procedure over the blocks: load, wait, command (R205). -/
def blockStatements (first : Bool) (blocks : List Block) : List Statement :=
  match blocks with
  | [] => []
  | M :: rest => .loadblk M :: .waitready :: blockCommandFor first rest.isEmpty :: blockStatements false rest

/-- The host's procedure for hashing padded blocks (R205). -/
def hashStatements (blocks : List Block) : List Statement :=
  .reset :: blockStatements true blocks ++ [.waitready, .rddigest]

end Sys2Proof.Machine
end

