-- ==== Sys2Proof/Config.lean ====
section
/-! DEFINITION. What is fixed for a machine or left open by the spec. No parameter of the core is open
(92_eei_decisions.md, "Parameters left OPEN"); the one open parameter is the host's `LEN_FIELD_MODE`. -/

namespace Sys2Proof

/-- The host parameter `LEN_FIELD_MODE` (00_scope.md R10; 41_message_padding.md R137; D16). It acts on the host's padding
only; the core's behaviour does not depend on it. -/
inductive LenFieldMode where
  /-- The 64-bit big-endian length field, the default. -/
  | STANDARD64
  /-- The repository's 32-bit length field, whose layout no source gives (U2). -/
  | REFERENCE32
  deriving DecidableEq, Repr

/-- The host's one failure (R136, R236; U3): the message is rejected before any block is sent. -/
inductive PadError where
  /-- The message's bit length does not fit the length field. -/
  | inputTooLarge
  deriving DecidableEq, Repr, Inhabited

/-- FREE VALUE (log entry 8): the blocks a host sends for a message under `REFERENCE32`. U2: "the words the host writes
under REFERENCE32 are unconstrained". It has no body, so no proof can see a value of it. -/
opaque Config.reference32Blocks : List Byte → Except PadError (List Block)

end Sys2Proof
end

