-- ==== Sys2Proof/Machine/Padding.lean ====
section
/-! DEFINITION. The host's duty (41_message_padding.md R130 to R139): padding, packing, block decomposition, and the digest
defined through the core's compression. Nothing here is performed by the core (R130). -/

namespace Sys2Proof.Machine

/-- z, the number of zero bytes after the byte 0x80: (55 - n) mod 64 (R133). -/
def zeroBytes (n : Nat) : Nat := ((55 - (n : Int)) % 64).toNat

/-- The bit length L = 8n as a 64-bit big-endian integer, most significant byte first (R131, R133). -/
def lengthField (n : Nat) : List Byte :=
  (List.range 8).map fun k => (BitVec.ofNat 64 (8 * n)).extractLsb' (8 * (7 - k)) 8

/-- P, the padded byte sequence (R133). -/
def padBytes (B : List Byte) : List Byte :=
  B ++ [0x80] ++ List.replicate (zeroBytes B.length) 0 ++ lengthField B.length

/-- Four bytes in a word, the first in bits 31:24 (R132). -/
def packWord (p0 p1 p2 p3 : Byte) : Word := p0 ++ p1 ++ p2 ++ p3

/-- The packed buffer: word w is the bytes 4w..4w+3 (R132). -/
def packWords : List Byte → List Word
  | p0 :: p1 :: p2 :: p3 :: rest => packWord p0 p1 p2 p3 :: packWords rest
  | _ => []

/-- Block j is the words 16j..16j+15 of the packed buffer (R135). -/
def blocksOf : List Word → List Block
  | w0 :: w1 :: w2 :: w3 :: w4 :: w5 :: w6 :: w7 :: w8 :: w9 :: w10 :: w11 :: w12 :: w13 :: w14 :: w15 :: rest =>
    #v[w0, w1, w2, w3, w4, w5, w6, w7, w8, w9, w10, w11, w12, w13, w14, w15] :: blocksOf rest
  | _ => []

/-- The blocks a host sends for a message, or `InputTooLarge`: n < 2^61 bytes under the 64-bit field (R133 to R136); under
`REFERENCE32` a free value (R137, U2; log entry 8). -/
def padMessage (mode : LenFieldMode) (B : List Byte) : Except PadError (List Block) :=
  match mode with
  | .STANDARD64 => if B.length < 2 ^ 61 then .ok (blocksOf (packWords (padBytes B))) else .error .inputTooLarge
  | .REFERENCE32 => Config.reference32Blocks B

/-- H after the blocks, in order (R138). -/
def chain (H : Hash) (blocks : List Block) : Hash := blocks.foldl compress H

/-- SHA256(B), the digest, on messages with L < 2^64 (R138). -/
def sha256 (B : List Byte) : Except PadError Hash := (padMessage .STANDARD64 B).map (chain IV)

/-- The 32 digest bytes H[0][31:24], H[0][23:16], ..., H[7][7:0] (R139). -/
def digestBytes (H : Hash) : List Byte :=
  H.toList.flatMap fun w => [w.extractLsb' 24 8, w.extractLsb' 16 8, w.extractLsb' 8 8, w.extractLsb' 0 8]

/-- The 64 lowercase hexadecimal characters, most significant nibble first (R139); the host's rendering. -/
def digestHex (H : Hash) : List Char :=
  (digestBytes H).flatMap fun p => [Nat.digitChar (p.toNat / 16), Nat.digitChar (p.toNat % 16)]

end Sys2Proof.Machine
end

