-- ==== Sys2Proof/Safety.lean ====
section
/-! DEFINITION. The terms in which claims about runs are stated, beside those of Machine/Ports.lean: which writes are rejected (R232), the invariants of R42, and what the host can tell apart (R41). -/

namespace Sys2Proof.Machine

/-- No CIW of the list is a reset. -/
def NoReset (ws : List Ciw) : Prop := ∀ w ∈ ws, w.rst = false

/-- Which error the transaction `w` raises in state `s`, if any (R232). -/
def rejection (s : CoreState) (w : Ciw) : Option ErrCode :=
  if w.rst || !w.we then none
  else
    match target w.addr with
    | .ctrl =>
      if malformed w.data then some .ERR_CTRL
      else if w.data = 0 then none
      else if s.fsm ≠ .IDLE then some .ERR_BUSY
      else if (w.data = 2 ∨ w.data = 6) ∧ s.phase = .FINALIZED then some .ERR_FINAL
      else none
    | .blk _ => none
    | .status => some .ERR_ADDR
    | .digest _ => some .ERR_ADDR
    | .reserved => some .ERR_ADDR

/-- The invariants of every reachable state (R42), in R42's order. -/
structure CoreState.Inv (s : CoreState) : Prop where
  counter_zero : s.fsm ≠ .ROUND → s.t = 0
  last_clear : s.fsm = .IDLE → s.last = false
  finalized_idle : s.phase = .FINALIZED → s.fsm = .IDLE
  valid_idle : s.valid = true → s.fsm = .IDLE
  no_error_code : s.err = false → s.errcode = 0
  error_code : s.err = true → s.errcode = 1 ∨ s.errcode = 2 ∨ s.errcode = 3 ∨ s.errcode = 4
  status_reserved : (statusWord s).extractLsb' 8 24 = 0

/-- Two states the host cannot tell apart, now or later: equal but for hidden state that no later edge reads before it is
overwritten (R41, R155): a..h, Wwin and t while IDLE, Wwin and t while UPDATE. -/
structure CoreState.SameToHost (s s' : CoreState) : Prop where
  H : s.H = s'.H
  BLK : s.BLK = s'.BLK
  fsm : s.fsm = s'.fsm
  last : s.last = s'.last
  phase : s.phase = s'.phase
  valid : s.valid = s'.valid
  err : s.err = s'.err
  errcode : s.errcode = s'.errcode
  inRound : s.fsm = .ROUND → s.work = s'.work ∧ s.Wwin = s'.Wwin ∧ s.t = s'.t
  inUpdate : s.fsm = .UPDATE → s.work = s'.work

/-- The transaction starts a new hash computation when it is accepted: init, initblock or initblock.last (R198, R201,
R202). -/
def StartsHash (i : Instr) : Prop := i = .init ∨ i = .initblock ∨ i = .initblockLast

/-- The transaction is a reset. -/
def IsReset (i : Instr) : Prop := ∃ we addr data, i = .reset we addr data

/-- The command word the host writes for a block (R205). -/
def blockCommandCiw (first isLast : Bool) : Ciw :=
  match first, isLast with
  | true, false => 0x4000000003
  | true, true => 0x4000000007
  | false, false => 0x4000000002
  | false, true => 0x4000000006

/-- The CIWs of a host that hashes blocks: for each block the sixteen writes of `loadblk`, the command, and then, while the
block is in progress, whatever it presents (`gap`). -/
def hashInputs (first : Bool) : List (Block × List Ciw) → List Ciw
  | [] => []
  | (M, gap) :: rest => loadblkCiws M ++ blockCommandCiw first rest.isEmpty :: gap ++ hashInputs false rest

/-- BLK after an edge at which the host presents `w`, no reset: a write of BLK[i] stores, nothing else does (R26, R196). -/
def loadWord (B : Block) (w : Ciw) : Block :=
  match w.we, target w.addr with
  | true, .blk i => B.set i.toNat w.data i.isLt
  | _, _ => B

/-- The CIWs of a host that loads each further block while the one before it is in progress (R205): only commands, and after
each what the host presents until the block is done (`gap`). -/
def overlappedInputs (first : Bool) : List (Block × List Ciw) → List Ciw
  | [] => []
  | (_, gap) :: rest => blockCommandCiw first rest.isEmpty :: gap ++ overlappedInputs false rest

end Sys2Proof.Machine
end

