-- ==== Sys2Proof/Certificates/Slice0/Obligations.lean ====
section
/-! DEFINITION. The statements about the machine. In each docstring, the rule of spec/ it formalises. A statement "for every
transaction" is over every constructor of Instr or every CIW; `exec` and `step` never fault and never refuse, and the result
statements below say so by giving the next state. -/

open Sys2Proof Sys2Proof.Machine

/-- The error record after a rejected write with code `code`, put on the state `n` the edge would have produced without the
write (R230, R233). -/
def errorRecorded (code : BitVec 4) (s n : CoreState) : CoreState :=
  if s.err then n else { n with err := true, errcode := code }

/-- The reset state, element by element (R43), with the values of IV written out (R54). -/
def resetValues : CoreState where
  H := #v[0x6a09e667, 0xbb67ae85, 0x3c6ef372, 0xa54ff53a, 0x510e527f, 0x9b05688c, 0x1f83d9ab, 0x5be0cd19]
  work := { a := 0, b := 0, c := 0, d := 0, e := 0, f := 0, g := 0, h := 0 }
  BLK := #v[0, 0, 0, 0, 0, 0, 0, 0, 0, 0, 0, 0, 0, 0, 0, 0]
  Wwin := #v[0, 0, 0, 0, 0, 0, 0, 0, 0, 0, 0, 0, 0, 0, 0, 0]
  t := 0
  fsm := .IDLE
  last := false
  phase := .ACCEPTING
  valid := false
  err := false
  errcode := 0

/-! ## Encoding -/

/-- Decoding the word of a well-formed instruction gives the instruction back, with every operand and every don't-care bit. -/
def Obligations.DecodeOfEncodeIsTheInstruction : Prop :=
  ∀ i : Instr, i.WellFormed → decode (encode i) = i

/-- Every CIW decodes to a well-formed instruction whose word it is: the classes of R83, R85 and R86 cover every CIW. -/
def Obligations.EncodeOfDecodeIsTheWord : Prop :=
  ∀ w : Ciw, encode (decode w) = w ∧ (decode w).WellFormed

/-- The decoder agrees with the opcode table: a CIW belongs to the row of the instruction it decodes to, and to no other row
but for the 29 rows of reserved bits, which overlap one another only. -/
def Obligations.DecodedRowIsTheOnlyRowOfAWord : Prop :=
  ∀ w : Ciw, ∃ r ∈ opcodeTable, r.mnemonic = (decode w).mnemonic ∧ r.holds w = true ∧
    ∀ r' ∈ opcodeTable, r'.holds w = true → r' = r ∨ (r ∈ reservedBitRows ∧ r' ∈ reservedBitRows)

/-- Words written out from R81, R83, R85 and R90 decode to the transactions they stand for. -/
def Obligations.SpecWordsDecodeToTheirTransactions : Prop :=
  decode 0x8000000000 = .reset false 0 0 ∧ decode 0xc000000007 = .reset true 0 7 ∧
  decode 0x4000000000 = .nop ∧ decode 0x4000000001 = .init ∧ decode 0x4000000002 = .block ∧
  decode 0x4000000006 = .blockLast ∧ decode 0x4000000003 = .initblock ∧ decode 0x4000000007 = .initblockLast ∧
  decode 0x4000000004 = .wrctrlMalformed4 ∧ decode 0x4000000005 = .wrctrlMalformed5 ∧
  decode 0x4000000102 = .wrctrlMalformedRsvd8 0x102 ∧ decode 0x4080000002 = .wrctrlMalformedRsvd31 0x80000002 ∧
  decode 0x5061626380 = .wrblk 0 0x61626380 ∧ decode 0x5f00000018 = .wrblk 15 0x18 ∧
  decode 0x4100000000 = .wrStatus 0 ∧ decode 0x6300000001 = .wrDigest 3 1 ∧ decode 0x4200000001 = .wrRsvd02 0 1 ∧
  decode 0x6800000001 = .wrRsvd28 0 1 ∧ decode 0x0000000000 = .rdctrl 0 ∧ decode 0x0100000000 = .rdstat 0 ∧
  decode 0x1300000000 = .rdblk 3 0 ∧ decode 0x2700000000 = .rddig 7 0 ∧ decode 0x3f00000000 = .rdRsvd30 15 0

/-- Numbers of more than 40 bits, and only those, are rejected by name; a table word of 40 bits decodes as its CIW. -/
def Obligations.OnlyWiderNumbersAreNoTransaction : Prop :=
  (∀ n : Nat, decodeBits n = .error .widerThanCiw ↔ 2 ^ 40 ≤ n) ∧
  (∀ n : Nat, n < 2 ^ 40 → decodeTableWord 40 n = some (decode (BitVec.ofNat 40 n)))

/-! ## The step -/

/-- A step runs the instruction that the next CIW decodes to, on the state with that CIW taken from the list; with no CIW left
the host idles (log entries 1 and 2). -/
def Obligations.StepRunsTheDecodedTransaction : Prop :=
  ∀ s : State,
    (∀ w rest, s.inputs = w :: rest → step s = exec (decode w) { s with inputs := rest }) ∧
    (s.inputs = [] → step s = exec (.rdctrl 0) s)

/-- The step is R190's: with the ports of the presented CIW, the core's next state is `portStep`, whatever the state; it never
stops. -/
def Obligations.StepIsThePortStep : Prop :=
  ∀ s : State, ∃ t, step s = .next t ∧ t.inputs = s.inputs.tail ∧
    t.core = portStep s.core s.nextInput.rst s.nextInput.we s.nextInput.addr s.nextInput.data

/-- R191: in every cycle rdata is read(s, addr) of the state before the edge, whatever rst, we and wdata are; a read writes
nothing and raises no error, so the core's own part of the edge is all that happens. -/
def Obligations.RdataShowsTheAddressedRegister : Prop :=
  ∀ (s : State) (rst we : Bool) (addr : Addr) (data : Word),
    ∃ t, exec (decode (ciw rst we addr data)) s = .next t ∧ t.rdata = readData s.core addr ∧
      (rst = false → we = false → t.core = coreEdge s.core)

/-- A run of the machine over a list of CIWs is the fold of the port step over them, and uses up just these CIWs. -/
def Obligations.RunFoldsThePortStep : Prop :=
  ∀ (s : State) (ws rest : List Ciw), s.inputs = ws ++ rest →
    ∃ t, Host.Core.run Sys2Proof.core ws.length s = .next t ∧ t.core = ciwRun s.core ws ∧ t.inputs = rest

/-- `withFetchWord` presents the word: the very next step runs the instruction the table word decodes to (log entry 9). -/
def Obligations.FetchWordIsWhatTheNextStepRuns : Prop :=
  ∀ (s : State) (w : Nat) (i : Instr), decodeTableWord 40 w = some i →
    step (s.withFetchWord 40 w) = exec i { s with inputs := s.inputs.tail }

/-! ## Reset -/

/-- R260: at an edge with rst = 1 the core's next state is the reset state of R43, whatever the state and whatever we, addr
and wdata are; and a CIW with RST = 1 is a reset whatever its other bits. -/
def Obligations.ResetEdgeGivesTheResetState : Prop :=
  (∀ (s : State) (we : Bool) (addr : Addr) (data : Word),
    ∃ t, exec (.reset we addr data) s = .next t ∧ t.core = resetValues ∧ t.inputs = s.inputs) ∧
  (∀ (we : Bool) (addr : Addr) (data : Word), decode (ciw true we addr data) = .reset we addr data)

/-- R43: the machine after reset, and after any edge with rst = 1, holds the reset values; STATUS reads 1 and DIGEST[j] reads
IV[j]. -/
def Obligations.ResetStateHoldsTheResetValues : Prop :=
  State.reset.core = resetValues ∧
  (∀ (s t : State) (w : Ciw), w.rst = true → exec (decode w) s = .next t → t.core = resetValues) ∧
  statusWord State.reset.core = 0x00000001 ∧
  (∀ j : BitVec 3, readDIGEST State.reset.core j = IV[j.toNat]'j.isLt) ∧
  (∀ i : BitVec 4, readBLK State.reset.core i = 0)

/-! ## The commands -/

/-- R197: `nop`, CIW 0x4000000000, does nothing in any state; the core's own part of the edge proceeds. -/
def Obligations.NopDoesNothing : Prop :=
  decode 0x4000000000 = .nop ∧
  ∀ s : State, exec .nop s = .next { s with core := coreEdge s.core, rdata := 0 }

/-- R198: `init`, CIW 0x4000000001, while IDLE loads H with IV and clears valid, phase and the error record; STATUS is then 1; while a block is
in progress it is rejected with ERR_BUSY and changes nothing else. -/
def Obligations.InitLoadsTheInitialHashOrIsBusy : Prop :=
  decode 0x4000000001 = .init ∧
  ∀ s : State,
    (s.core.fsm = .IDLE →
      exec .init s = .next { s with
        core := { s.core with H := IV, valid := false, phase := .ACCEPTING, err := false, errcode := 0 }
        rdata := 0 } ∧
      ∀ t, exec .init s = .next t → statusWord t.core = 0x00000001) ∧
    (s.core.fsm ≠ .IDLE →
      exec .init s = .next { s with core := errorRecorded 1 s.core (coreEdge s.core), rdata := 0 })

/-- A block is done: READY and VALID are 1, and FINAL is 1 exactly when it was the last. -/
def doneWith (last : Bool) (s : CoreState) : Prop :=
  s.ready = true ∧ s.valid = true ∧ s.final = last

/-- R199, R200, R171: `block` and `block.last`, accepted: a..h from H, Wwin from BLK, t = 0, fsm = ROUND, valid = 0, last as
the command says, nothing else; H is not written. 65 edges later, whatever the host presents but a reset, READY and VALID
are 1, and FINAL for `block.last`. While a block is in progress: ERR_BUSY. In FINALIZED: ERR_FINAL. -/
def Obligations.BlockCommandLoadsTheBlockOrIsRejected : Prop :=
  decode 0x4000000002 = .block ∧ decode 0x4000000006 = .blockLast ∧
  ∀ (s : State) (i : Instr) (last : Bool), (i = .block ∧ last = false) ∨ (i = .blockLast ∧ last = true) →
    (s.core.fsm = .IDLE → s.core.phase = .ACCEPTING →
      exec i s = .next { s with
        core := { s.core with
          work := { a := s.core.H[0], b := s.core.H[1], c := s.core.H[2], d := s.core.H[3],
                    e := s.core.H[4], f := s.core.H[5], g := s.core.H[6], h := s.core.H[7] }
          Wwin := s.core.BLK, t := 0, fsm := .ROUND, valid := false, last := last }
        rdata := 0 } ∧
      ∀ t gap, exec i s = .next t → gap.length = 65 → NoReset gap → doneWith last (ciwRun t.core gap)) ∧
    (s.core.fsm = .IDLE → s.core.phase = .FINALIZED →
      exec i s = .next { s with core := errorRecorded 2 s.core s.core, rdata := 0 }) ∧
    (s.core.fsm ≠ .IDLE →
      exec i s = .next { s with core := errorRecorded 1 s.core (coreEdge s.core), rdata := 0 })

/-- R201, R202, R171: `initblock` and `initblock.last`, accepted in either phase: H and a..h from IV, Wwin from BLK, t = 0,
fsm = ROUND, valid, phase and the error record cleared, last as the command says. 65 edges later, whatever the host presents
but a reset, READY and VALID are 1, and FINAL for `initblock.last`. While a block is in progress: ERR_BUSY. -/
def Obligations.InitblockCommandStartsAHashOrIsBusy : Prop :=
  decode 0x4000000003 = .initblock ∧ decode 0x4000000007 = .initblockLast ∧
  ∀ (s : State) (i : Instr) (last : Bool), (i = .initblock ∧ last = false) ∨ (i = .initblockLast ∧ last = true) →
    (s.core.fsm = .IDLE →
      exec i s = .next { s with
        core := { s.core with
          H := IV
          work := { a := IV[0], b := IV[1], c := IV[2], d := IV[3], e := IV[4], f := IV[5], g := IV[6], h := IV[7] }
          Wwin := s.core.BLK, t := 0, fsm := .ROUND, valid := false, phase := .ACCEPTING, last := last
          err := false, errcode := 0 }
        rdata := 0 } ∧
      ∀ t gap, exec i s = .next t → gap.length = 65 → NoReset gap → doneWith last (ciwRun t.core gap)) ∧
    (s.core.fsm ≠ .IDLE →
      exec i s = .next { s with core := errorRecorded 1 s.core (coreEdge s.core), rdata := 0 })

/-- The malformed command words of the opcode table (R86), with the word `v` for the rows of reserved bits. -/
def malformedWrites (v : Word) : List Instr :=
  [.wrctrlMalformed4, .wrctrlMalformed5,
   .wrctrlMalformedRsvd3 v, .wrctrlMalformedRsvd4 v, .wrctrlMalformedRsvd5 v, .wrctrlMalformedRsvd6 v,
   .wrctrlMalformedRsvd7 v, .wrctrlMalformedRsvd8 v, .wrctrlMalformedRsvd9 v, .wrctrlMalformedRsvd10 v,
   .wrctrlMalformedRsvd11 v, .wrctrlMalformedRsvd12 v, .wrctrlMalformedRsvd13 v, .wrctrlMalformedRsvd14 v,
   .wrctrlMalformedRsvd15 v, .wrctrlMalformedRsvd16 v] ++
  [.wrctrlMalformedRsvd17 v, .wrctrlMalformedRsvd18 v, .wrctrlMalformedRsvd19 v, .wrctrlMalformedRsvd20 v,
   .wrctrlMalformedRsvd21 v, .wrctrlMalformedRsvd22 v, .wrctrlMalformedRsvd23 v, .wrctrlMalformedRsvd24 v,
   .wrctrlMalformedRsvd25 v, .wrctrlMalformedRsvd26 v, .wrctrlMalformedRsvd27 v, .wrctrlMalformedRsvd28 v,
   .wrctrlMalformedRsvd29 v, .wrctrlMalformedRsvd30 v, .wrctrlMalformedRsvd31 v]

/-- Every malformed row of the opcode table, with any operand, records ERR_CTRL, in every state, and has no other effect. For
a malformed command word, a well-formed instruction, this is R203's effect. That an instruction `wrctrlMalformedRsvdK v`
whose bit K is clear, which is no malformed word and which no CIW decodes to, has it too is the model's choice (log entry
4). -/
def Obligations.MalformedCommandWordsRecordErrCtrl : Prop :=
  ∀ (s : State) (v : Word), ∀ i ∈ malformedWrites v,
    exec i s = .next { s with core := errorRecorded 3 s.core (coreEdge s.core), rdata := 0 }

/-- R203, R86: a write to CTRL of 0x4, 0x5 or any word with a reserved bit set is one of the malformed
rows, whatever its OP and LAST, and records ERR_CTRL in every state with no other effect. -/
def Obligations.EveryMalformedWordIsRejected : Prop :=
  ∀ (s : State) (v : Word), v = 0x4 ∨ v = 0x5 ∨ v.extractLsb' 3 29 ≠ 0 →
    decode (ciw false true 0x00 v) ∈ malformedWrites v ∧
    exec (decode (ciw false true 0x00 v)) s =
      .next { s with core := errorRecorded 3 s.core (coreEdge s.core), rdata := 0 }

/-! ## Other writes and reads -/

/-- R204: a write to STATUS, DIGEST or a reserved address records ERR_ADDR, in every state, and has no other effect: each row
of the table, and each address. -/
def Obligations.ReadOnlyAndReservedWritesRecordErrAddr : Prop :=
  (∀ (s : State) (i : Instr) (v : Word) (j a3 b3 : BitVec 3) (a1 : BitVec 1) (a2 : BitVec 2) (a4 : BitVec 4),
    i ∈ [.wrStatus v, .wrDigest j v, .wrRsvd02 a1 v, .wrRsvd04 a2 v, .wrRsvd08 a3 v, .wrRsvd28 b3 v, .wrRsvd30 a4 v] →
    ∃ t, exec i s = .next t ∧ t.core = errorRecorded 4 s.core (coreEdge s.core) ∧ t.inputs = s.inputs) ∧
  (∀ (s : State) (addr : Addr) (v : Word), (0x01 ≤ addr.toNat ∧ addr.toNat ≤ 0x0F) ∨ 0x20 ≤ addr.toNat →
    ∃ t, exec (decode (ciw false true addr v)) s = .next t ∧ t.core = errorRecorded 4 s.core (coreEdge s.core) ∧
      t.inputs = s.inputs)

/-- R196: `wrblk i, v`, WE = 1 and ADDR = 0x10 + i, is accepted in every state, stores v in BLK[i] and writes nothing else of
the core's state; BLK[k] for any other k reads as before. -/
def Obligations.BlockBufferWriteStoresOneWord : Prop :=
  ∀ (s : State) (i : BitVec 4) (v : Word),
    decode (ciw false true (0x10 + i.setWidth 6) v) = .wrblk i v ∧
    ∃ t, exec (.wrblk i v) s = .next t ∧ t.inputs = s.inputs ∧ t.core = { coreEdge s.core with BLK := t.core.BLK } ∧
      readBLK t.core i = v ∧ ∀ k, k ≠ i → readBLK t.core k = readBLK s.core k

/-- R192, R206: `rdstat`, WE = 0 and ADDR = 0x01, returns {24'b0, errcode, err, FINAL, valid, READY} of the state before the
edge; READY is the `ready` output. -/
def Obligations.StatusReadReturnsTheStatusFields : Prop :=
  ∀ (s : State) (x : Word), decode (ciw false false 0x01 x) = .rdstat x ∧
    ∃ t, exec (.rdstat x) s = .next t ∧ t.core = coreEdge s.core ∧ t.inputs = s.inputs ∧
      t.rdata.getLsbD 0 = (s.core.fsm == .IDLE) ∧ s.core.ready = (s.core.fsm == .IDLE) ∧
      t.rdata.getLsbD 1 = s.core.valid ∧ t.rdata.getLsbD 2 = (s.core.phase == .FINALIZED) ∧
      t.rdata.getLsbD 3 = s.core.err ∧ t.rdata.extractLsb' 4 4 = s.core.errcode ∧ t.rdata.extractLsb' 8 24 = 0

/-- R193, R194: `rdblk i`, ADDR = 0x10 + i, returns BLK[i] and `rddig j`, ADDR = 0x20 + j, returns H[j] of the state before
the edge; nothing is written. -/
def Obligations.BlockAndDigestReadsReturnTheRegister : Prop :=
  ∀ (s : State) (i : BitVec 4) (j : BitVec 3) (x : Word),
    decode (ciw false false (0x10 + i.setWidth 6) x) = .rdblk i x ∧
    decode (ciw false false (0x20 + j.setWidth 6) x) = .rddig j x ∧
    exec (.rdblk i x) s = .next { s with core := coreEdge s.core, rdata := s.core.BLK[i.toNat]'i.isLt } ∧
    exec (.rddig j x) s = .next { s with core := coreEdge s.core, rdata := s.core.H[j.toNat]'j.isLt }

/-- R195: a read of CTRL or of a reserved address returns 0; nothing is written: each row of the table, and each address. -/
def Obligations.CtrlAndReservedReadsReturnZero : Prop :=
  (∀ (s : State) (i : Instr) (x : Word) (a3 b3 : BitVec 3) (a1 : BitVec 1) (a2 : BitVec 2) (a4 : BitVec 4),
    i ∈ [.rdctrl x, .rdRsvd02 a1 x, .rdRsvd04 a2 x, .rdRsvd08 a3 x, .rdRsvd28 b3 x, .rdRsvd30 a4 x] →
    exec i s = .next { s with core := coreEdge s.core, rdata := 0 }) ∧
  (∀ (s : State) (addr : Addr) (x : Word),
    addr = 0x00 ∨ (0x02 ≤ addr.toNat ∧ addr.toNat ≤ 0x0F) ∨ 0x28 ≤ addr.toNat →
    exec (decode (ciw false false addr x)) s = .next { s with core := coreEdge s.core, rdata := 0 })

/-- Every read has the same effect on the core as `idle`, and none at all while no block is in progress. -/
def Obligations.EveryReadActsAsIdle : Prop :=
  ∀ (s : State) (w : Ciw), w.rst = false → w.we = false →
    ∃ t t', exec (decode w) s = .next t ∧ exec (decode idleCiw) s = .next t' ∧ t.core = t'.core ∧
      (s.core.fsm = .IDLE → t.core = s.core)

/-- The address map as a read sees it (20_memory.md section 4). -/
def Obligations.AddressMapOfReads : Prop :=
  ∀ (s : CoreState) (a : Addr),
    (a = 0x00 → readData s a = 0) ∧ (a = 0x01 → readData s a = statusWord s) ∧
    (∀ i : BitVec 4, a.toNat = 0x10 + i.toNat → readData s a = readBLK s i) ∧
    (∀ j : BitVec 3, a.toNat = 0x20 + j.toNat → readData s a = readDIGEST s j) ∧
    ((0x02 ≤ a.toNat ∧ a.toNat ≤ 0x0F) ∨ (0x28 ≤ a.toNat ∧ a.toNat ≤ 0x3F) → readData s a = 0)

/-! ## Errors -/

/-- R233: the record after an edge with rst = 0. A transaction that raises an error sets err, and errcode if it is the first;
one that raises none leaves the record as it is, unless it is an accepted init, initblock or initblock.last, which clears
it. -/
def Obligations.FirstErrorIsRecordedAndKept : Prop :=
  ∀ (s t : State) (w : Ciw), w.rst = false → exec (decode w) s = .next t →
    (∀ c, rejection s.core w = some c →
      t.core.err = true ∧ t.core.errcode = if s.core.err then s.core.errcode else c.bits) ∧
    (rejection s.core w = none → ¬ StartsHash (decode w) →
      t.core.err = s.core.err ∧ t.core.errcode = s.core.errcode) ∧
    (rejection s.core w = none → StartsHash (decode w) → t.core.err = false ∧ t.core.errcode = 0)

/-- R230: after an edge at which a write is rejected, the core is in the state the edge would have produced without the write
(with an idle cycle in its place) plus the error record, which R233 gives. -/
def Obligations.RejectedWriteChangesOnlyTheErrorRecord : Prop :=
  ∀ (s : State) (w : Ciw) (c : ErrCode), rejection s.core w = some c →
    ∃ t t', exec (decode w) s = .next t ∧ exec (decode idleCiw) s = .next t' ∧
      t.core = errorRecorded c.bits s.core t'.core

/-- R234: err and errcode are cleared only by reset and by an accepted init, initblock or initblock.last, and all of these
clear them. -/
def Obligations.ErrorRecordIsClearedOnlyByANewHash : Prop :=
  ∀ (i : Instr) (s t : State), exec i s = .next t →
    ((s.core.err = true ∧ t.core.err = false) ∨ (s.core.errcode ≠ 0 ∧ t.core.errcode = 0) →
      IsReset i ∨ (s.core.fsm = .IDLE ∧ StartsHash i)) ∧
    (IsReset i ∨ (s.core.fsm = .IDLE ∧ StartsHash i) → t.core.err = false ∧ t.core.errcode = 0)

/-! ## Who writes what -/

/-- (10_state.md section 2) H is written only by reset, by an accepted init or initblock command, which load IV, and by the UPDATE edge, which
adds a..h. -/
def Obligations.HashStateWriters : Prop :=
  ∀ (i : Instr) (s t : State), exec i s = .next t → t.core.H ≠ s.core.H →
    (IsReset i ∧ t.core.H = IV) ∨ (StartsHash i ∧ s.core.fsm = .IDLE ∧ t.core.H = IV) ∨
    (s.core.fsm = .UPDATE ∧ ∀ k : Fin 8, t.core.H[k] = s.core.H[k] +
      #v[s.core.work.a, s.core.work.b, s.core.work.c, s.core.work.d,
         s.core.work.e, s.core.work.f, s.core.work.g, s.core.work.h][k])

/-- (10_state.md section 2) a..h are written only by the LOAD edge, by each ROUND edge and by reset; the UPDATE edge leaves them unchanged. -/
def Obligations.WorkingRegisterWriters : Prop :=
  ∀ (i : Instr) (s t : State), exec i s = .next t → t.core.work ≠ s.core.work →
    IsReset i ∨ s.core.fsm = .ROUND ∨
    (s.core.fsm = .IDLE ∧ t.core.fsm = .ROUND ∧ (i = .block ∨ i = .blockLast ∨ i = .initblock ∨ i = .initblockLast))

/-- (10_state.md section 2) BLK changes only by reset and by `wrblk`, one word at a time; the core never writes it. -/
def Obligations.BlockBufferWriters : Prop :=
  ∀ (i : Instr) (s t : State) (k : BitVec 4), exec i s = .next t → readBLK t.core k ≠ readBLK s.core k →
    IsReset i ∨ ∃ v, i = .wrblk k v ∧ readBLK t.core k = v

/-- The flags valid, last and phase (10_state.md section 3): what can set and clear each. -/
def Obligations.ValidLastAndPhaseWriters : Prop :=
  ∀ (i : Instr) (s t : State), exec i s = .next t → ¬ IsReset i →
    (s.core.valid = false → t.core.valid = true → s.core.fsm = .UPDATE) ∧
    (s.core.fsm = .UPDATE → t.core.valid = true ∧ t.core.last = false) ∧
    (s.core.valid = true → t.core.valid = false → s.core.fsm = .IDLE ∧ (StartsHash i ∨ i = .block ∨ i = .blockLast)) ∧
    (s.core.last = false → t.core.last = true → s.core.fsm = .IDLE ∧ (i = .blockLast ∨ i = .initblockLast)) ∧
    (s.core.phase = .ACCEPTING → t.core.phase = .FINALIZED → s.core.fsm = .UPDATE ∧ s.core.last = true) ∧
    (s.core.phase = .FINALIZED → t.core.phase = .ACCEPTING → s.core.fsm = .IDLE ∧ StartsHash i)

/-! ## The core's own edges -/

/-- R173, R172, R153: at every edge with fsm = ROUND and no reset, whatever the host presents, the round with K[t] and
Wwin[0] is performed on a..h, the window shifts in σ1(Wwin[14]) + Wwin[9] + σ0(Wwin[1]) + Wwin[0], and t and fsm move on; H,
last, phase and valid are not written. -/
def Obligations.RoundEdgePerformsOneRound : Prop :=
  ∀ (s : State) (w : Ciw), s.core.fsm = .ROUND → w.rst = false →
    ∃ t, exec (decode w) s = .next t ∧
      (let r := s.core.work
       let t1 := r.h + bigSigma1 r.e + Ch r.e r.f r.g + K s.core.t + s.core.Wwin[0]
       let t2 := bigSigma0 r.a + Maj r.a r.b r.c
       t.core.work = { a := t1 + t2, b := r.a, c := r.b, d := r.c, e := r.d + t1, f := r.e, g := r.f, h := r.g }) ∧
      (∀ k : Fin 15, t.core.Wwin[k.val]'(by omega) = s.core.Wwin[k.val + 1]'(by omega)) ∧
      t.core.Wwin[15] = smallSigma1 s.core.Wwin[14] + s.core.Wwin[9] + smallSigma0 s.core.Wwin[1] + s.core.Wwin[0] ∧
      (s.core.t = 63 → t.core.fsm = .UPDATE ∧ t.core.t = 0) ∧
      (s.core.t ≠ 63 → t.core.fsm = .ROUND ∧ t.core.t.toNat = s.core.t.toNat + 1) ∧
      t.core.H = s.core.H ∧ t.core.last = s.core.last ∧ t.core.phase = s.core.phase ∧ t.core.valid = s.core.valid

/-- R175: at the edge with fsm = UPDATE and no reset, whatever the host presents, a..h are added into H modulo 2^32, fsm
becomes IDLE, valid is set, phase becomes FINALIZED if last was set and stays otherwise, last is cleared; a..h, Wwin and t
are not written. -/
def Obligations.UpdateEdgeAddsTheWorkingRegisters : Prop :=
  ∀ (s : State) (w : Ciw), s.core.fsm = .UPDATE → w.rst = false →
    ∃ t, exec (decode w) s = .next t ∧
      t.core.H = #v[s.core.H[0] + s.core.work.a, s.core.H[1] + s.core.work.b, s.core.H[2] + s.core.work.c,
        s.core.H[3] + s.core.work.d, s.core.H[4] + s.core.work.e, s.core.H[5] + s.core.work.f,
        s.core.H[6] + s.core.work.g, s.core.H[7] + s.core.work.h] ∧
      t.core.fsm = .IDLE ∧ t.core.valid = true ∧
      t.core.phase = (if s.core.last then .FINALIZED else s.core.phase) ∧ t.core.last = false ∧
      t.core.work = s.core.work ∧ t.core.Wwin = s.core.Wwin ∧ t.core.t = s.core.t

/-! ## Mixing logic, schedule and constants -/

/-- R100, R101: bit i of ROTR^n(x) is bit (i + n) mod 32 of x; bit i of SHR^n(x) is bit i + n of x while i + n ≤ 31, else
0. -/
def Obligations.RotationsAndShiftsBitByBit : Prop :=
  ∀ (x : Word) (n i : Nat), 0 < n → n < 32 → i < 32 →
    (ROTR n x).getLsbD i = x.getLsbD ((i + n) % 32) ∧
    (SHR n x).getLsbD i = if i + n ≤ 31 then x.getLsbD (i + n) else false

/-- R103, R104: Ch selects y's bit where x's is 1 and z's where it is 0; a bit of Maj is 1 exactly when at least two of the
three are. -/
def Obligations.ChooseAndMajorityBitByBit : Prop :=
  ∀ (x y z : Word) (i : Nat), i < 32 →
    (Ch x y z).getLsbD i = (if x.getLsbD i then y.getLsbD i else z.getLsbD i) ∧
    ((Maj x y z).getLsbD i = true ↔
      2 ≤ (x.getLsbD i).toNat + (y.getLsbD i).toNat + (z.getLsbD i).toNat)

/-- R105 to R108: each Sigma function is the XOR of its three rotated or shifted copies, bit by bit, with the spec's
amounts. -/
def Obligations.SigmaFunctionsBitByBit : Prop :=
  ∀ (x : Word) (i : Nat), i < 32 →
    (bigSigma0 x).getLsbD i =
      (x.getLsbD ((i + 2) % 32) ^^ x.getLsbD ((i + 13) % 32) ^^ x.getLsbD ((i + 22) % 32)) ∧
    (bigSigma1 x).getLsbD i =
      (x.getLsbD ((i + 6) % 32) ^^ x.getLsbD ((i + 11) % 32) ^^ x.getLsbD ((i + 25) % 32)) ∧
    (smallSigma0 x).getLsbD i =
      (x.getLsbD ((i + 7) % 32) ^^ x.getLsbD ((i + 18) % 32) ^^ x.getLsbD (i + 3)) ∧
    (smallSigma1 x).getLsbD i =
      (x.getLsbD ((i + 17) % 32) ^^ x.getLsbD ((i + 19) % 32) ^^ x.getLsbD (i + 10))

/-- The first 64 primes, in increasing order (20_memory.md section 3). -/
def firstPrimes : List Nat :=
  [2, 3, 5, 7, 11, 13, 17, 19, 23, 29, 31, 37, 41, 43, 47, 53] ++
  [59, 61, 67, 71, 73, 79, 83, 89, 97, 101, 103, 107, 109, 113, 127, 131] ++
  [137, 139, 149, 151, 157, 163, 167, 173, 179, 181, 191, 193, 197, 199, 211, 223] ++
  [227, 229, 233, 239, 241, 251, 257, 263, 269, 271, 277, 281, 283, 293, 307, 311]

/-- K[t] and IV[i] are floor(frac(p^(1/3))·2^32) and floor(frac(p^(1/2))·2^32) of the primes p, in integers: q is the whole
part of the root, and q·2^32 + K[t] the largest integer whose cube is at most p·2^96 (20_memory.md section 3, how the tables
were checked). -/
def Obligations.ConstantsAreRootsOfPrimes : Prop :=
  (∀ t : BitVec 6, ∃ q < 8, (q * 2 ^ 32 + (K t).toNat) ^ 3 ≤ firstPrimes.getD t.toNat 0 * 2 ^ 96 ∧
    firstPrimes.getD t.toNat 0 * 2 ^ 96 < (q * 2 ^ 32 + (K t).toNat + 1) ^ 3) ∧
  (∀ i : Fin 8, ∃ q < 8, (q * 2 ^ 32 + (IV[i]).toNat) ^ 2 ≤ firstPrimes.getD i 0 * 2 ^ 64 ∧
    firstPrimes.getD i 0 * 2 ^ 64 < (q * 2 ^ 32 + (IV[i]).toNat + 1) ^ 2)

/-- R150: W[t] is M[t] for t in 0..15 and the recurrence for t in 16..63 (and beyond, as the window computes it); round t of
the compression consumes W[t] and no other schedule word. -/
def Obligations.ScheduleFollowsTheRecurrence : Prop :=
  ∀ (M : Block) (t : Nat),
    (∀ h : t < 16, schedule M t = M[t]) ∧
    (16 ≤ t → schedule M t = smallSigma1 (schedule M (t - 2)) + schedule M (t - 7) +
      smallSigma0 (schedule M (t - 15)) + schedule M (t - 16)) ∧
    (t < 64 → ∀ r, rounds M r (t + 1) = roundStep (BitVec.ofNat 6 t) (rounds M r t) (schedule M t))

/-- R170: compress(H, M) sets a..h from H, applies round t with W[t] for t = 0, 1, ..., 63 in this order, and adds a..h back
into H word by word, modulo 2^32. -/
def Obligations.CompressIsSixtyFourRoundsAddedBack : Prop :=
  ∀ (H : Hash) (M : Block),
    let r := (List.range 64).foldl (fun r t => roundStep (BitVec.ofNat 6 t) r (schedule M t))
      { a := H[0], b := H[1], c := H[2], d := H[3], e := H[4], f := H[5], g := H[6], h := H[7] }
    compress H M = #v[H[0] + r.a, H[1] + r.b, H[2] + r.c, H[3] + r.d, H[4] + r.e, H[5] + r.f, H[6] + r.g, H[7] + r.h]

/-- The window holds the schedule (42_message_schedule.md section 2): after n window steps from Wwin = M, Wwin[i] = W[n+i]. -/
def Obligations.WindowHoldsTheSchedule : Prop :=
  ∀ (M : Block) (n : Nat) (i : Fin 16), (windowStep^[n] M)[i] = schedule M (n + i)

/-! ## Invariants -/

/-- The invariants of R42 hold right after reset. -/
def Obligations.InvariantsHoldAtReset : Prop := State.reset.core.Inv

/-- Every step keeps the invariants of R42, whatever the host presents. -/
def Obligations.EveryStepKeepsTheInvariants : Prop :=
  ∀ s t : State, s.core.Inv → step s = .next t → t.core.Inv

/-! ## Whole blocks, whole messages -/

/-- After an accepted block command, edge by edge (43_compression.md section 3): E1..E63 find fsm = ROUND and t the number of
rounds done, after E64 fsm = UPDATE, whatever the host presents, so long as it does not reset. -/
def Obligations.BlockTakesSixtyFiveFurtherEdges : Prop :=
  ∀ (s : CoreState) (ws : List Ciw), s.fsm = .ROUND → s.t = 0 → NoReset ws →
    (ws.length ≤ 63 → (ciwRun s ws).fsm = .ROUND ∧ (ciwRun s ws).t.toNat = ws.length ∧ (ciwRun s ws).H = s.H) ∧
    (ws.length = 64 → (ciwRun s ws).fsm = .UPDATE ∧ (ciwRun s ws).t = 0 ∧ (ciwRun s ws).H = s.H) ∧
    (ws.length = 65 → (ciwRun s ws).fsm = .IDLE ∧ (ciwRun s ws).valid = true ∧
      (ciwRun s ws).phase = if s.last then .FINALIZED else s.phase)

/-- One block (43_compression.md section 3): a machine that is IDLE, presented an accepted block command at E0 and then any 65
CIWs without a reset, ends IDLE and valid with H = compress(H0, BLK), where H0 is H for block and IV for initblock, and in
FINALIZED exactly when the command had LAST. -/
def Obligations.CompressionOfOneBlock : Prop :=
  ∀ (s : State) (first isLast : Bool) (gap rest : List Ciw),
    s.core.fsm = .IDLE → (first = true ∨ s.core.phase = .ACCEPTING) → gap.length = 65 → NoReset gap →
    s.inputs = blockCommandCiw first isLast :: gap ++ rest →
    ∃ t, Host.Core.run Sys2Proof.core 66 s = .next t ∧ t.inputs = rest ∧
      t.core.H = compress (if first then IV else s.core.H) s.core.BLK ∧
      t.core.fsm = .IDLE ∧ t.core.valid = true ∧ t.core.phase = (if isLast then .FINALIZED else .ACCEPTING)

/-- The digest of every message of fewer than 2^61 bytes (43_compression.md section 3, 44_host_interface.md section 6,
41_message_padding.md section 5), each block loaded when the one before it is done: from any state, a reset, and then for each padded block its sixteen BLK writes, its command (R205) and 65 arbitrary CIWs without a
reset, leave DIGEST = SHA256 of the message, STATUS.FINAL and STATUS.READY set. Loads during the rounds
are in HostMayLoadTheNextBlockDuringTheRounds, longer messages in OverlongMessagesAreRejectedByTheHost. -/
def Obligations.HostProcedureComputesTheDigest : Prop :=
  ∀ (s : State) (B : List Byte) (work : List (Block × List Ciw)) (rest : List Ciw),
    padMessage .STANDARD64 B = .ok (work.map Prod.fst) →
    (∀ p ∈ work, p.2.length = 65 ∧ NoReset p.2) →
    s.inputs = 0x8000000000 :: hashInputs true work ++ rest →
    ∃ t, Host.Core.run Sys2Proof.core (1 + 82 * work.length) s = .next t ∧ t.inputs = rest ∧
      sha256 B = .ok t.core.H ∧ t.core.fsm = .IDLE ∧ t.core.phase = .FINALIZED ∧ t.core.valid = true

/-- The digest stays (44_host_interface.md section 6): from a FINALIZED state, so long as the host presents no reset, init,
initblock or initblock.last, H and phase do not change, whatever else it presents and for however long. -/
def Obligations.FinalizedDigestDoesNotChange : Prop :=
  ∀ (s : CoreState) (ws : List Ciw), s.Inv → s.phase = .FINALIZED →
    (∀ w ∈ ws, ¬ IsReset (decode w) ∧ ¬ StartsHash (decode w)) →
    (ciwRun s ws).H = s.H ∧ (ciwRun s ws).phase = .FINALIZED ∧ (ciwRun s ws).fsm = .IDLE

/-- The host learns nothing of hidden state that no later edge reads (10_state.md section 5): two machines that differ only in
it, driven alike, show the same rdata and the same ready after every number of steps, for ever. -/
def Obligations.HiddenStateIsNeverObserved : Prop :=
  ∀ (s s' : State) (n : Nat), s.core.SameToHost s'.core → s.inputs = s'.inputs → s.rdata = s'.rdata →
    ∃ t t', Host.Core.run Sys2Proof.core n s = .next t ∧ Host.Core.run Sys2Proof.core n s' = .next t' ∧
      t.core.SameToHost t'.core ∧ t.inputs = t'.inputs ∧ t.rdata = t'.rdata ∧ t.core.ready = t'.core.ready

/-- `initblock` equals `init` followed by `block` at the next edge, one edge earlier, and likewise with LAST
(44_host_interface.md section 4). -/
def Obligations.InitblockIsInitThenBlock : Prop :=
  ∀ (s : State) (last : Bool), s.core.fsm = .IDLE →
    ∃ t t1 t2,
      exec (if last then .initblockLast else .initblock) s = .next t ∧ exec .init s = .next t1 ∧
      exec (if last then .blockLast else .block) t1 = .next t2 ∧ t.core = t2.core

/-- A reset in the middle of a block abandons it, and after reset `block` does what `initblock` does (70_reset_and_hazards.md
sections 1 and 2): the block then compressed starts from IV. -/
def Obligations.BlockAfterResetIsInitblock : Prop :=
  ∀ (s t : State) (we : Bool) (addr : Addr) (data : Word), exec (.reset we addr data) s = .next t →
    ∃ u u', exec .block t = .next u ∧ exec .initblock t = .next u' ∧ u.core = u'.core ∧ u.core.fsm = .ROUND ∧
      u.core.work = Working.ofHash IV

/-! ## The host's padding -/

/-- The padded message (41_message_padding.md section 3): the message, one byte 0x80, zero bytes, and in the last 8 bytes the
bit length 8n, most significant byte first. -/
def Obligations.PaddingLayout : Prop :=
  ∀ B : List Byte, B.length < 2 ^ 61 →
    (padBytes B).take B.length = B ∧ (padBytes B)[B.length]? = some 0x80 ∧
    (∀ k, B.length < k → k + 8 < (padBytes B).length → (padBytes B)[k]? = some 0x00) ∧
    ((padBytes B).drop ((padBytes B).length - 8)).foldl (fun n p => 256 * n + p.toNat) 0 = 8 * B.length

/-- Sizes of the padded message (41_message_padding.md section 3): for a message of n < 2^61 bytes, the padded buffer is
N = floor((n + 8) / 64) + 1 blocks of 64 bytes. -/
def Obligations.PaddingFillsWholeBlocks : Prop :=
  ∀ B : List Byte, B.length < 2 ^ 61 →
    (padBytes B).length = 64 * ((B.length + 8) / 64 + 1) ∧
    ∃ blocks, padMessage .STANDARD64 B = .ok blocks ∧ blocks.length = (B.length + 8) / 64 + 1

/-- Where the bytes of the padded message go (41_message_padding.md sections 2 and 3): byte 64j + 4i + k is in word i of block
j, in bits 31:24 for k = 0 down to bits 7:0 for k = 3. -/
def Obligations.PackedWordsAreBigEndian : Prop :=
  ∀ (B : List Byte) (blocks : List Block), padMessage .STANDARD64 B = .ok blocks →
    ∀ (j : Nat) (i : Fin 16) (k : Fin 4), (h : j < blocks.length) →
      ((blocks[j])[i]).extractLsb' (8 * (3 - k)) 8 = (padBytes B).getD (64 * j + 4 * i + k) 0

/-- R136: a message of 2^61 bytes or more is `InputTooLarge` under the 64-bit length field, and a shorter one is not. -/
def Obligations.OverlongMessagesAreRejectedByTheHost : Prop :=
  ∀ B : List Byte, padMessage .STANDARD64 B = .error .inputTooLarge ↔ 2 ^ 61 ≤ B.length

/-! ## Loads that overlap the rounds -/

/-- The digest of HostProcedureComputesTheDigest when the loads overlap the rounds (44_host_interface.md sections 3 and 6): a
reset, the first block's sixteen BLK writes, and then for each block its command and 65 CIWs without a reset, arbitrary but that the BLK writes among them leave the next block in
BLK. -/
def Obligations.HostMayLoadTheNextBlockDuringTheRounds : Prop :=
  ∀ (s : State) (B : List Byte) (M : Block) (work : List (Block × List Ciw)) (rest : List Ciw),
    padMessage .STANDARD64 B = .ok (work.map Prod.fst) → (work.map Prod.fst).head? = some M →
    (∀ p ∈ work, p.2.length = 65 ∧ NoReset p.2) → work.IsChain (fun p q => p.2.foldl loadWord p.1 = q.1) →
    s.inputs = 0x8000000000 :: loadblkCiws M ++ overlappedInputs true work ++ rest →
    ∃ t, Host.Core.run Sys2Proof.core (17 + 66 * work.length) s = .next t ∧ t.inputs = rest ∧
      sha256 B = .ok t.core.H ∧ t.core.fsm = .IDLE ∧ t.core.phase = .FINALIZED ∧ t.core.valid = true

/-! ## Host programs -/

/-- The expansion of each pseudo-instruction (30_encoding.md section 6), in every state: `idle` is `rdctrl` and `idle n` is n
of them; `loadblk` is sixteen `wrblk` and `rddigest` eight `rddig`, in order; `waitready` is `rdstat`, repeated until the value
read has bit 0 = 1, which it has at the last read and at no read before. That no state needs more than 66 reads, so that the
bounded expansion is the whole loop, is no rule of section 6 but the model's deduction (log entry 12), from
70_reset_and_hazards.md section 4 and 43_compression.md section 3. -/
def Obligations.PseudoInstructionsExpand : Prop :=
  ∀ s : CoreState,
    assemble s (.idle 1) = assemble s .rdctrl ∧ (∀ n, assemble s (.idle n) = List.replicate n 0x0000000000) ∧
    (∀ M : Block, assemble s (.loadblk M) =
      (List.finRange 16).flatMap fun i : Fin 16 => assemble s (.wrblk (BitVec.ofNat 4 i) M[i])) ∧
    (assemble s .rddigest = (List.finRange 8).flatMap fun j : Fin 8 => assemble s (.rddig (BitVec.ofNat 3 j))) ∧
    assemble s .rdstat = [0x0100000000] ∧
    ∃ n ≤ 65, assemble s .waitready = List.replicate (n + 1) 0x0100000000 ∧
      ∀ k ≤ n, (readData (ciwRun s (List.replicate k 0x0100000000)) 0x01).getLsbD 0 = decide (k = n)

/-- A `waitready` that starts in the cycle after a block command was accepted sees READY = 0 in 65 reads and READY = 1 at the
66th (70_reset_and_hazards.md section 4). -/
def Obligations.WaitreadyAfterACommandMakesSixtySixReads : Prop :=
  ∀ (s : State) (i : Instr) (t : State), (i = .block ∨ i = .blockLast ∨ i = .initblock ∨ i = .initblockLast) →
    s.core.fsm = .IDLE → rejection s.core (encode i) = none → exec i s = .next t →
    assemble t.core .waitready = List.replicate 66 0x0100000000 ∧
    ∀ k < 66, (readData (ciwRun t.core (List.replicate k 0x0100000000)) 0x01).getLsbD 0 = decide (k = 65)

/-- The host's procedure as a program (44_host_interface.md section 6): reset, then for each padded block `loadblk`,
`waitready` and its command, then `waitready` and `rddigest`. From any state, it ends with the digest in H, and with STATUS
= READY | VALID | FINAL and ERR = 0. -/
def Obligations.HostProgramComputesTheDigest : Prop :=
  ∀ (s : State) (B : List Byte) (blocks : List Block) (rest : List Ciw),
    padMessage .STANDARD64 B = .ok blocks → s.inputs = assembleProgram s.core (hashStatements blocks) ++ rest →
    ∃ t, Host.Core.run Sys2Proof.core (assembleProgram s.core (hashStatements blocks)).length s = .next t ∧
      t.inputs = rest ∧ sha256 B = .ok t.core.H ∧ statusWord t.core = 0x00000007
end

