-- ==== Sys2Proof/Laws/Decode.lean ====
section
/-! SUPPORT. The fields of a CIW and the CIW of given fields. -/

namespace Sys2Proof

/-- Every bit of the CIW of given fields (R81). -/
theorem ciw_getLsbD (r e : Bool) (a : Addr) (d : Word) (i : Nat) :
    (ciw r e a d).getLsbD i =
      if i < 32 then d.getLsbD i
      else if i < 38 then a.getLsbD (i - 32)
      else if i = 38 then e
      else if i = 39 then r else false := by
  show BitVec.getLsbD (w := 1 + 1 + 6 + 32) (BitVec.ofBool r ++ BitVec.ofBool e ++ a ++ d) i = _
  simp only [BitVec.getLsbD_append, BitVec.getLsbD_ofBool]
  by_cases h : i < 32
  · simp [h]
  · by_cases h' : i < 38
    · have : i - 32 < 6 := by omega
      simp [h, h', this]
    · have h6 : ¬ i - 32 < 6 := by omega
      by_cases h8 : i = 38
      · subst h8; simp
      · have h7 : ¬ i - 32 - 6 < 1 := by omega
        by_cases h9 : i = 39
        · subst h9; simp
        · have : i - 32 - 6 - 1 ≠ 0 := by omega
          simp [h, h', h6, h7, h8, h9, this]

@[simp] theorem ciw_rst (r e : Bool) (a : Addr) (d : Word) : (ciw r e a d).rst = r := by
  rw [Ciw.rst, ciw_getLsbD]; rfl

@[simp] theorem ciw_we (r e : Bool) (a : Addr) (d : Word) : (ciw r e a d).we = e := by
  rw [Ciw.we, ciw_getLsbD]; rfl

@[simp] theorem ciw_addr (r e : Bool) (a : Addr) (d : Word) : (ciw r e a d).addr = a := by
  apply BitVec.eq_of_getLsbD_eq
  intro i hi
  have h1 : 32 + i < 38 := by omega
  rw [Ciw.addr, BitVec.getLsbD_extractLsb', ciw_getLsbD]
  simp [hi, h1]

@[simp] theorem ciw_data (r e : Bool) (a : Addr) (d : Word) : (ciw r e a d).data = d := by
  apply BitVec.eq_of_getLsbD_eq
  intro i hi
  rw [Ciw.data, BitVec.getLsbD_extractLsb', ciw_getLsbD]
  simp [hi]

/-- A CIW is determined by its four fields (R81). -/
theorem ciw_eta (w : Ciw) : ciw w.rst w.we w.addr w.data = w := by
  apply BitVec.eq_of_getLsbD_eq
  intro i hi
  rw [ciw_getLsbD, Ciw.addr, Ciw.data, BitVec.getLsbD_extractLsb', BitVec.getLsbD_extractLsb']
  by_cases h : i < 32
  · simp [h]
  · by_cases h' : i < 38
    · have h1 : 32 + (i - 32) = i := by omega
      have h2 : i - 32 < 6 := by omega
      simp [h, h', h1, h2]
    · rcases (by omega : i = 38 ∨ i = 39) with rfl | rfl <;> simp [Ciw.rst, Ciw.we]

/-- Masking a CIW masks its fields. -/
theorem ciw_and (r e r' e' : Bool) (a a' : Addr) (d d' : Word) :
    ciw r e a d &&& ciw r' e' a' d' = ciw (r && r') (e && e') (a &&& a') (d &&& d') := by
  apply BitVec.eq_of_getLsbD_eq
  intro i hi
  simp only [BitVec.getLsbD_and, ciw_getLsbD]
  split
  · rfl
  · split
    · rfl
    · split
      · rfl
      · split <;> rfl

theorem ciw_inj {r e r' e' : Bool} {a a' : Addr} {d d' : Word} :
    ciw r e a d = ciw r' e' a' d' ↔ r = r' ∧ e = e' ∧ a = a' ∧ d = d' := by
  constructor
  · intro h
    refine ⟨?_, ?_, ?_, ?_⟩
    · simpa using congrArg Ciw.rst h
    · simpa using congrArg Ciw.we h
    · simpa using congrArg Ciw.addr h
    · simpa using congrArg Ciw.data h
  · rintro ⟨rfl, rfl, rfl, rfl⟩; rfl

/-- A masked CIW equals a pattern when each of its masked fields does. -/
theorem ciw_masked {w m p : Ciw} (hr : (w.rst && m.rst) = p.rst) (he : (w.we && m.we) = p.we)
    (ha : w.addr &&& m.addr = p.addr) (hd : w.data &&& m.data = p.data) : w &&& m = p := by
  rw [← ciw_eta w, ← ciw_eta m, ← ciw_eta p, ciw_and, hr, he, ha, hd]

end Sys2Proof
end

