-- ==== Sys2Proof/Laws/Mixing.lean ====
section
/-! SUPPORT. The mixing logic's shared operation, bit by bit. -/

namespace Sys2Proof.Machine

/-- A bit of the three-way XOR is the XOR of the three bits. -/
@[simp] theorem xor3_getLsbD (p q r : Word) (i : Nat) :
    (xor3 p q r).getLsbD i = (p.getLsbD i ^^ q.getLsbD i ^^ r.getLsbD i) := by
  simp [xor3]

end Sys2Proof.Machine
end

