-- ==== Sys2Proof/Laws/State.lean ====
section
/-! SUPPORT. Small lemmas of the updates of the state: one per field per update. -/

namespace Sys2Proof.Machine

@[simp] theorem raise_H (c : ErrCode) (s n : CoreState) : (raise c s n).H = n.H := by
  unfold raise; split <;> rfl
@[simp] theorem raise_work (c : ErrCode) (s n : CoreState) : (raise c s n).work = n.work := by
  unfold raise; split <;> rfl
@[simp] theorem raise_BLK (c : ErrCode) (s n : CoreState) : (raise c s n).BLK = n.BLK := by
  unfold raise; split <;> rfl
@[simp] theorem raise_Wwin (c : ErrCode) (s n : CoreState) : (raise c s n).Wwin = n.Wwin := by
  unfold raise; split <;> rfl
@[simp] theorem raise_t (c : ErrCode) (s n : CoreState) : (raise c s n).t = n.t := by
  unfold raise; split <;> rfl
@[simp] theorem raise_fsm (c : ErrCode) (s n : CoreState) : (raise c s n).fsm = n.fsm := by
  unfold raise; split <;> rfl
@[simp] theorem raise_last (c : ErrCode) (s n : CoreState) : (raise c s n).last = n.last := by
  unfold raise; split <;> rfl
@[simp] theorem raise_phase (c : ErrCode) (s n : CoreState) : (raise c s n).phase = n.phase := by
  unfold raise; split <;> rfl
@[simp] theorem raise_valid (c : ErrCode) (s n : CoreState) : (raise c s n).valid = n.valid := by
  unfold raise; split <;> rfl
@[simp] theorem raise_err (c : ErrCode) (s n : CoreState) : (raise c s n).err = if s.err then n.err else true := by
  unfold raise; split <;> rfl
@[simp] theorem raise_errcode (c : ErrCode) (s n : CoreState) :
    (raise c s n).errcode = if s.err then n.errcode else c.bits := by
  unfold raise; split <;> rfl
@[simp] theorem writeBLK_H (i : BitVec 4) (v : Word) (n : CoreState) : (writeBLK i v n).H = n.H := rfl
@[simp] theorem writeBLK_work (i : BitVec 4) (v : Word) (n : CoreState) : (writeBLK i v n).work = n.work := rfl
@[simp] theorem writeBLK_BLK (i : BitVec 4) (v : Word) (n : CoreState) :
    (writeBLK i v n).BLK = n.BLK.set i.toNat v i.isLt := rfl
@[simp] theorem writeBLK_Wwin (i : BitVec 4) (v : Word) (n : CoreState) : (writeBLK i v n).Wwin = n.Wwin := rfl
@[simp] theorem writeBLK_t (i : BitVec 4) (v : Word) (n : CoreState) : (writeBLK i v n).t = n.t := rfl
@[simp] theorem writeBLK_fsm (i : BitVec 4) (v : Word) (n : CoreState) : (writeBLK i v n).fsm = n.fsm := rfl
@[simp] theorem writeBLK_last (i : BitVec 4) (v : Word) (n : CoreState) : (writeBLK i v n).last = n.last := rfl
@[simp] theorem writeBLK_phase (i : BitVec 4) (v : Word) (n : CoreState) : (writeBLK i v n).phase = n.phase := rfl
@[simp] theorem writeBLK_valid (i : BitVec 4) (v : Word) (n : CoreState) : (writeBLK i v n).valid = n.valid := rfl
@[simp] theorem writeBLK_err (i : BitVec 4) (v : Word) (n : CoreState) : (writeBLK i v n).err = n.err := rfl
@[simp] theorem writeBLK_errcode (i : BitVec 4) (v : Word) (n : CoreState) : (writeBLK i v n).errcode = n.errcode := rfl
@[simp] theorem loadBlock_H (src : Hash) (s n : CoreState) : (loadBlock src s n).H = n.H := rfl
@[simp] theorem loadBlock_work (src : Hash) (s n : CoreState) : (loadBlock src s n).work = Working.ofHash src := rfl
@[simp] theorem loadBlock_BLK (src : Hash) (s n : CoreState) : (loadBlock src s n).BLK = n.BLK := rfl
@[simp] theorem loadBlock_Wwin (src : Hash) (s n : CoreState) : (loadBlock src s n).Wwin = s.BLK := rfl
@[simp] theorem loadBlock_t (src : Hash) (s n : CoreState) : (loadBlock src s n).t = 0 := rfl
@[simp] theorem loadBlock_fsm (src : Hash) (s n : CoreState) : (loadBlock src s n).fsm = .ROUND := rfl
@[simp] theorem loadBlock_last (src : Hash) (s n : CoreState) : (loadBlock src s n).last = n.last := rfl
@[simp] theorem loadBlock_phase (src : Hash) (s n : CoreState) : (loadBlock src s n).phase = n.phase := rfl
@[simp] theorem loadBlock_valid (src : Hash) (s n : CoreState) : (loadBlock src s n).valid = n.valid := rfl
@[simp] theorem loadBlock_err (src : Hash) (s n : CoreState) : (loadBlock src s n).err = n.err := rfl
@[simp] theorem loadBlock_errcode (src : Hash) (s n : CoreState) : (loadBlock src s n).errcode = n.errcode := rfl
@[simp] theorem roundEdge_H (s : CoreState) : (roundEdge s).H = s.H := rfl
@[simp] theorem roundEdge_work (s : CoreState) : (roundEdge s).work = roundStep s.t s.work s.Wwin[0] := rfl
@[simp] theorem roundEdge_BLK (s : CoreState) : (roundEdge s).BLK = s.BLK := rfl
@[simp] theorem roundEdge_Wwin (s : CoreState) : (roundEdge s).Wwin = windowStep s.Wwin := rfl
@[simp] theorem roundEdge_t (s : CoreState) : (roundEdge s).t = if s.t = 63 then 0 else s.t + 1 := rfl
@[simp] theorem roundEdge_fsm (s : CoreState) : (roundEdge s).fsm = if s.t = 63 then .UPDATE else .ROUND := rfl
@[simp] theorem roundEdge_last (s : CoreState) : (roundEdge s).last = s.last := rfl
@[simp] theorem roundEdge_phase (s : CoreState) : (roundEdge s).phase = s.phase := rfl
@[simp] theorem roundEdge_valid (s : CoreState) : (roundEdge s).valid = s.valid := rfl
@[simp] theorem roundEdge_err (s : CoreState) : (roundEdge s).err = s.err := rfl
@[simp] theorem roundEdge_errcode (s : CoreState) : (roundEdge s).errcode = s.errcode := rfl
@[simp] theorem updateEdge_H (s : CoreState) : (updateEdge s).H = addBack s.H s.work := rfl
@[simp] theorem updateEdge_work (s : CoreState) : (updateEdge s).work = s.work := rfl
@[simp] theorem updateEdge_BLK (s : CoreState) : (updateEdge s).BLK = s.BLK := rfl
@[simp] theorem updateEdge_Wwin (s : CoreState) : (updateEdge s).Wwin = s.Wwin := rfl
@[simp] theorem updateEdge_t (s : CoreState) : (updateEdge s).t = s.t := rfl
@[simp] theorem updateEdge_fsm (s : CoreState) : (updateEdge s).fsm = .IDLE := rfl
@[simp] theorem updateEdge_last (s : CoreState) : (updateEdge s).last = false := rfl
@[simp] theorem updateEdge_phase (s : CoreState) : (updateEdge s).phase = if s.last then .FINALIZED else s.phase := rfl
@[simp] theorem updateEdge_valid (s : CoreState) : (updateEdge s).valid = true := rfl
@[simp] theorem updateEdge_err (s : CoreState) : (updateEdge s).err = s.err := rfl
@[simp] theorem updateEdge_errcode (s : CoreState) : (updateEdge s).errcode = s.errcode := rfl
@[simp] theorem coreEdge_BLK (s : CoreState) : (coreEdge s).BLK = s.BLK := by
  unfold coreEdge; split <;> rfl
@[simp] theorem coreEdge_err (s : CoreState) : (coreEdge s).err = s.err := by
  unfold coreEdge; split <;> rfl
@[simp] theorem coreEdge_errcode (s : CoreState) : (coreEdge s).errcode = s.errcode := by
  unfold coreEdge; split <;> rfl

theorem coreEdge_idle (s : CoreState) (h : s.fsm = .IDLE) : coreEdge s = s := by simp [coreEdge, h]
theorem coreEdge_round (s : CoreState) (h : s.fsm = .ROUND) : coreEdge s = roundEdge s := by simp [coreEdge, h]
theorem coreEdge_update (s : CoreState) (h : s.fsm = .UPDATE) : coreEdge s = updateEdge s := by simp [coreEdge, h]

@[simp] theorem takeInput_core (s : State) : s.takeInput.core = s.core := rfl
@[simp] theorem takeInput_inputs (s : State) : s.takeInput.inputs = s.inputs.tail := rfl
@[simp] theorem takeInput_rdata (s : State) : s.takeInput.rdata = s.rdata := rfl
@[simp] theorem presentNext_core (s : State) (w : Ciw) : (s.presentNext w).core = s.core := rfl
@[simp] theorem presentNext_inputs (s : State) (w : Ciw) : (s.presentNext w).inputs = w :: s.inputs.tail := rfl
@[simp] theorem presentNext_rdata (s : State) (w : Ciw) : (s.presentNext w).rdata = s.rdata := rfl
@[simp] theorem presentNext_nextInput (s : State) (w : Ciw) : (s.presentNext w).nextInput = w := rfl
@[simp] theorem presentNext_takeInput (s : State) (w : Ciw) : (s.presentNext w).takeInput = s.takeInput := rfl

theorem readBLK_writeBLK_same (i : BitVec 4) (v : Word) (n : CoreState) : readBLK (writeBLK i v n) i = v := by
  simp [readBLK, writeBLK]

theorem readBLK_writeBLK_other (i k : BitVec 4) (v : Word) (n : CoreState) (h : k ≠ i) :
    readBLK (writeBLK i v n) k = readBLK n k := by
  have h' : i.toNat ≠ k.toNat := fun e => h (BitVec.eq_of_toNat_eq e.symm)
  simp [readBLK, writeBLK, h']

end Sys2Proof.Machine
end

