-- ==== Sys2Proof/Laws/Ops.lean ====
section
/-! SUPPORT. What each shared operation can do, said once, and what an edge can do. -/

namespace Sys2Proof.Machine

/-! ## The commands -/

theorem initCommand_idle (s n : CoreState) (h : s.fsm = .IDLE) :
    initCommand s n = { n with H := IV, valid := false, phase := .ACCEPTING, err := false, errcode := 0 } := by
  simp [initCommand, h]

theorem initCommand_busy (s n : CoreState) (h : s.fsm ≠ .IDLE) : initCommand s n = raise .ERR_BUSY s n := by
  simp [initCommand, h]

theorem blockCommand_accepted (last : Bool) (s n : CoreState) (h : s.fsm = .IDLE) (hp : s.phase ≠ .FINALIZED) :
    blockCommand last s n = { loadBlock s.H s n with valid := false, last := last } := by
  simp [blockCommand, h, hp]

theorem blockCommand_finalized (last : Bool) (s n : CoreState) (h : s.fsm = .IDLE) (hp : s.phase = .FINALIZED) :
    blockCommand last s n = raise .ERR_FINAL s n := by
  simp [blockCommand, h, hp]

theorem blockCommand_busy (last : Bool) (s n : CoreState) (h : s.fsm ≠ .IDLE) :
    blockCommand last s n = raise .ERR_BUSY s n := by
  simp [blockCommand, h]

theorem initblockCommand_idle (last : Bool) (s n : CoreState) (h : s.fsm = .IDLE) :
    initblockCommand last s n = { loadBlock IV s n with
      H := IV, valid := false, phase := .ACCEPTING, last := last, err := false, errcode := 0 } := by
  simp [initblockCommand, h]

theorem initblockCommand_busy (last : Bool) (s n : CoreState) (h : s.fsm ≠ .IDLE) :
    initblockCommand last s n = raise .ERR_BUSY s n := by
  simp [initblockCommand, h]

/-! ## What an edge can do -/

/-- What the host part of a transaction can do to the core at one edge; `core` is the state before the edge. -/
inductive EdgeEffect (i : Instr) (s : CoreState) : CoreState → Prop
  | reset (h : IsReset i) : EdgeEffect i s CoreState.reset
  | nothing : EdgeEffect i s (coreEdge s)
  | rejected (c : ErrCode) : EdgeEffect i s (raise c s (coreEdge s))
  | wrote (k : BitVec 4) (v : Word) (h : i = .wrblk k v) : EdgeEffect i s (writeBLK k v (coreEdge s))
  | init (h : i = .init) (idle : s.fsm = .IDLE) :
      EdgeEffect i s { s with H := IV, valid := false, phase := .ACCEPTING, err := false, errcode := 0 }
  | block (last : Bool) (h : i = bif last then .blockLast else .block) (idle : s.fsm = .IDLE)
      (accepting : s.phase ≠ .FINALIZED) :
      EdgeEffect i s { loadBlock s.H s s with valid := false, last := last }
  | initblock (last : Bool) (h : i = bif last then .initblockLast else .initblock) (idle : s.fsm = .IDLE) :
      EdgeEffect i s { loadBlock IV s s with
        H := IV, valid := false, phase := .ACCEPTING, last := last, err := false, errcode := 0 }

theorem initCommand_effect (s : CoreState) : EdgeEffect .init s (initCommand s (coreEdge s)) := by
  by_cases h : s.fsm = .IDLE
  · rw [initCommand_idle _ _ h, coreEdge_idle s h]; exact .init rfl h
  · rw [initCommand_busy _ _ h]; exact .rejected _

theorem blockCommand_effect (last : Bool) (s : CoreState) :
    EdgeEffect (bif last then .blockLast else .block) s (blockCommand last s (coreEdge s)) := by
  by_cases h : s.fsm = .IDLE
  · by_cases hp : s.phase = .FINALIZED
    · rw [blockCommand_finalized _ _ _ h hp]; exact .rejected _
    · rw [blockCommand_accepted _ _ _ h hp, coreEdge_idle s h]; exact .block last rfl h hp
  · rw [blockCommand_busy _ _ _ h]; exact .rejected _

theorem initblockCommand_effect (last : Bool) (s : CoreState) :
    EdgeEffect (bif last then .initblockLast else .initblock) s (initblockCommand last s (coreEdge s)) := by
  by_cases h : s.fsm = .IDLE
  · rw [initblockCommand_idle _ _ _ h, coreEdge_idle s h]; exact .initblock last rfl h
  · rw [initblockCommand_busy _ _ _ h]; exact .rejected _

/-- Inversion of exec: every transaction completes, takes no further input, and does one of seven things to the core. -/
theorem exec_effect (i : Instr) (s : State) :
    ∃ t, exec i s = .next t ∧ t.inputs = s.inputs ∧ EdgeEffect i s.core t.core := by
  cases i with
  | reset we addr data => exact ⟨_, rfl, rfl, .reset ⟨we, addr, data, rfl⟩⟩
  | init => exact ⟨_, rfl, rfl, initCommand_effect _⟩
  | block => exact ⟨_, rfl, rfl, blockCommand_effect false _⟩
  | blockLast => exact ⟨_, rfl, rfl, blockCommand_effect true _⟩
  | initblock => exact ⟨_, rfl, rfl, initblockCommand_effect false _⟩
  | initblockLast => exact ⟨_, rfl, rfl, initblockCommand_effect true _⟩
  | wrblk k v => exact ⟨_, rfl, rfl, .wrote k v rfl⟩
  | _ => first | exact ⟨_, rfl, rfl, .nothing⟩ | exact ⟨_, rfl, rfl, .rejected _⟩

/-- The same, from an answer. -/
theorem exec_next_effect {i : Instr} {s t : State} (h : exec i s = .next t) : EdgeEffect i s.core t.core := by
  obtain ⟨t', h', -, e⟩ := exec_effect i s
  cases h'.symm.trans h
  exact e

end Sys2Proof.Machine
end

