-- ==== Sys2Proof/Laws/PerInstr.lean ====
section
/-! SUPPORT. Per instruction: a well-formed instruction has a row in the opcode table, and its word belongs to that row's
class of CIWs (mask and match). -/

namespace Sys2Proof.Laws.EncodesInRow

/-- The instruction's word belongs to its row of the opcode table. -/
def Statement (i : Instr) : Prop :=
  i.WellFormed → ∃ r ∈ opcodeTable, r.mnemonic = i.mnemonic ∧ r.holds (encode i) = true

/-- A word with reserved bit k set keeps just that bit under row k's mask. -/
theorem reservedBit_masked {k : Nat} {v : Word} (h : lowestReservedBit k v = true) :
    v &&& BitVec.twoPow 32 k = BitVec.twoPow 32 k := by
  have hk : v.getLsbD k = true := by
    simp only [lowestReservedBit, Bool.and_eq_true] at h
    exact h.1
  rw [BitVec.and_twoPow, if_pos hk]

/-- Row membership from the four fields. -/
theorem holds_of_fields {r : TableRow} {w : Ciw} (hr : (w.rst && r.mask.rst) = r.pattern.rst)
    (he : (w.we && r.mask.we) = r.pattern.we) (ha : w.addr &&& r.mask.addr = r.pattern.addr)
    (hd : w.data &&& r.mask.data = r.pattern.data) : r.holds w = true := by
  simp only [TableRow.holds, beq_iff_eq]
  exact ciw_masked hr he ha hd

/-- Row k of the reserved bits holds of every CTRL word with reserved bit k set. -/
theorem reservedBit_holds {r : TableRow} {k : Nat} {v : Word} (h : lowestReservedBit k v = true)
    (hm : r.mask = ciw true true 0x3F (BitVec.twoPow 32 k)) (hp : r.pattern = ciw false true 0 (BitVec.twoPow 32 k)) :
    r.holds (writeCiw 0b000000 v) = true := by
  apply holds_of_fields <;> simp [hm, hp, writeCiw, reservedBit_masked h]

theorem reset (we : Bool) (addr : Addr) (data : Word) : Statement (.reset we addr data) := by
  rintro -
  refine ⟨⟨"reset", 0x8000000000, 0x8000000000⟩, by decide, rfl, holds_of_fields ?_ ?_ ?_ ?_⟩ <;>
    simp [encode, Ciw.rst, Ciw.we, Ciw.addr, Ciw.data, ciw_getLsbD]

theorem nop : Statement .nop := by
  rintro -
  exact ⟨⟨"nop", 0xffffffffff, 0x4000000000⟩, by decide, rfl, by decide⟩

theorem init : Statement .init := by
  rintro -
  exact ⟨⟨"init", 0xffffffffff, 0x4000000001⟩, by decide, rfl, by decide⟩

theorem block : Statement .block := by
  rintro -
  exact ⟨⟨"block", 0xffffffffff, 0x4000000002⟩, by decide, rfl, by decide⟩

theorem blockLast : Statement .blockLast := by
  rintro -
  exact ⟨⟨"block.last", 0xffffffffff, 0x4000000006⟩, by decide, rfl, by decide⟩

theorem initblock : Statement .initblock := by
  rintro -
  exact ⟨⟨"initblock", 0xffffffffff, 0x4000000003⟩, by decide, rfl, by decide⟩

theorem initblockLast : Statement .initblockLast := by
  rintro -
  exact ⟨⟨"initblock.last", 0xffffffffff, 0x4000000007⟩, by decide, rfl, by decide⟩

theorem wrctrlMalformed4 : Statement .wrctrlMalformed4 := by
  rintro -
  exact ⟨⟨"wrctrl.malformed.0x4", 0xffffffffff, 0x4000000004⟩, by decide, rfl, by decide⟩

theorem wrctrlMalformed5 : Statement .wrctrlMalformed5 := by
  rintro -
  exact ⟨⟨"wrctrl.malformed.0x5", 0xffffffffff, 0x4000000005⟩, by decide, rfl, by decide⟩

theorem wrctrlMalformedRsvd3 (v : Word) : Statement (.wrctrlMalformedRsvd3 v) := by
  intro h
  exact ⟨⟨"wrctrl.malformed.rsvd3", 0xff00000008, 0x4000000008⟩, by decide, rfl, reservedBit_holds h (by decide) (by decide)⟩

theorem wrctrlMalformedRsvd4 (v : Word) : Statement (.wrctrlMalformedRsvd4 v) := by
  intro h
  exact ⟨⟨"wrctrl.malformed.rsvd4", 0xff00000010, 0x4000000010⟩, by decide, rfl, reservedBit_holds h (by decide) (by decide)⟩

theorem wrctrlMalformedRsvd5 (v : Word) : Statement (.wrctrlMalformedRsvd5 v) := by
  intro h
  exact ⟨⟨"wrctrl.malformed.rsvd5", 0xff00000020, 0x4000000020⟩, by decide, rfl, reservedBit_holds h (by decide) (by decide)⟩

theorem wrctrlMalformedRsvd6 (v : Word) : Statement (.wrctrlMalformedRsvd6 v) := by
  intro h
  exact ⟨⟨"wrctrl.malformed.rsvd6", 0xff00000040, 0x4000000040⟩, by decide, rfl, reservedBit_holds h (by decide) (by decide)⟩

theorem wrctrlMalformedRsvd7 (v : Word) : Statement (.wrctrlMalformedRsvd7 v) := by
  intro h
  exact ⟨⟨"wrctrl.malformed.rsvd7", 0xff00000080, 0x4000000080⟩, by decide, rfl, reservedBit_holds h (by decide) (by decide)⟩

theorem wrctrlMalformedRsvd8 (v : Word) : Statement (.wrctrlMalformedRsvd8 v) := by
  intro h
  exact ⟨⟨"wrctrl.malformed.rsvd8", 0xff00000100, 0x4000000100⟩, by decide, rfl, reservedBit_holds h (by decide) (by decide)⟩

theorem wrctrlMalformedRsvd9 (v : Word) : Statement (.wrctrlMalformedRsvd9 v) := by
  intro h
  exact ⟨⟨"wrctrl.malformed.rsvd9", 0xff00000200, 0x4000000200⟩, by decide, rfl, reservedBit_holds h (by decide) (by decide)⟩

theorem wrctrlMalformedRsvd10 (v : Word) : Statement (.wrctrlMalformedRsvd10 v) := by
  intro h
  exact ⟨⟨"wrctrl.malformed.rsvd10", 0xff00000400, 0x4000000400⟩, by decide, rfl, reservedBit_holds h (by decide) (by decide)⟩

theorem wrctrlMalformedRsvd11 (v : Word) : Statement (.wrctrlMalformedRsvd11 v) := by
  intro h
  exact ⟨⟨"wrctrl.malformed.rsvd11", 0xff00000800, 0x4000000800⟩, by decide, rfl, reservedBit_holds h (by decide) (by decide)⟩

theorem wrctrlMalformedRsvd12 (v : Word) : Statement (.wrctrlMalformedRsvd12 v) := by
  intro h
  exact ⟨⟨"wrctrl.malformed.rsvd12", 0xff00001000, 0x4000001000⟩, by decide, rfl, reservedBit_holds h (by decide) (by decide)⟩

theorem wrctrlMalformedRsvd13 (v : Word) : Statement (.wrctrlMalformedRsvd13 v) := by
  intro h
  exact ⟨⟨"wrctrl.malformed.rsvd13", 0xff00002000, 0x4000002000⟩, by decide, rfl, reservedBit_holds h (by decide) (by decide)⟩

theorem wrctrlMalformedRsvd14 (v : Word) : Statement (.wrctrlMalformedRsvd14 v) := by
  intro h
  exact ⟨⟨"wrctrl.malformed.rsvd14", 0xff00004000, 0x4000004000⟩, by decide, rfl, reservedBit_holds h (by decide) (by decide)⟩

theorem wrctrlMalformedRsvd15 (v : Word) : Statement (.wrctrlMalformedRsvd15 v) := by
  intro h
  exact ⟨⟨"wrctrl.malformed.rsvd15", 0xff00008000, 0x4000008000⟩, by decide, rfl, reservedBit_holds h (by decide) (by decide)⟩

theorem wrctrlMalformedRsvd16 (v : Word) : Statement (.wrctrlMalformedRsvd16 v) := by
  intro h
  exact ⟨⟨"wrctrl.malformed.rsvd16", 0xff00010000, 0x4000010000⟩, by decide, rfl, reservedBit_holds h (by decide) (by decide)⟩

theorem wrctrlMalformedRsvd17 (v : Word) : Statement (.wrctrlMalformedRsvd17 v) := by
  intro h
  exact ⟨⟨"wrctrl.malformed.rsvd17", 0xff00020000, 0x4000020000⟩, by decide, rfl, reservedBit_holds h (by decide) (by decide)⟩

theorem wrctrlMalformedRsvd18 (v : Word) : Statement (.wrctrlMalformedRsvd18 v) := by
  intro h
  exact ⟨⟨"wrctrl.malformed.rsvd18", 0xff00040000, 0x4000040000⟩, by decide, rfl, reservedBit_holds h (by decide) (by decide)⟩

theorem wrctrlMalformedRsvd19 (v : Word) : Statement (.wrctrlMalformedRsvd19 v) := by
  intro h
  exact ⟨⟨"wrctrl.malformed.rsvd19", 0xff00080000, 0x4000080000⟩, by decide, rfl, reservedBit_holds h (by decide) (by decide)⟩

theorem wrctrlMalformedRsvd20 (v : Word) : Statement (.wrctrlMalformedRsvd20 v) := by
  intro h
  exact ⟨⟨"wrctrl.malformed.rsvd20", 0xff00100000, 0x4000100000⟩, by decide, rfl, reservedBit_holds h (by decide) (by decide)⟩

theorem wrctrlMalformedRsvd21 (v : Word) : Statement (.wrctrlMalformedRsvd21 v) := by
  intro h
  exact ⟨⟨"wrctrl.malformed.rsvd21", 0xff00200000, 0x4000200000⟩, by decide, rfl, reservedBit_holds h (by decide) (by decide)⟩

theorem wrctrlMalformedRsvd22 (v : Word) : Statement (.wrctrlMalformedRsvd22 v) := by
  intro h
  exact ⟨⟨"wrctrl.malformed.rsvd22", 0xff00400000, 0x4000400000⟩, by decide, rfl, reservedBit_holds h (by decide) (by decide)⟩

theorem wrctrlMalformedRsvd23 (v : Word) : Statement (.wrctrlMalformedRsvd23 v) := by
  intro h
  exact ⟨⟨"wrctrl.malformed.rsvd23", 0xff00800000, 0x4000800000⟩, by decide, rfl, reservedBit_holds h (by decide) (by decide)⟩

theorem wrctrlMalformedRsvd24 (v : Word) : Statement (.wrctrlMalformedRsvd24 v) := by
  intro h
  exact ⟨⟨"wrctrl.malformed.rsvd24", 0xff01000000, 0x4001000000⟩, by decide, rfl, reservedBit_holds h (by decide) (by decide)⟩

theorem wrctrlMalformedRsvd25 (v : Word) : Statement (.wrctrlMalformedRsvd25 v) := by
  intro h
  exact ⟨⟨"wrctrl.malformed.rsvd25", 0xff02000000, 0x4002000000⟩, by decide, rfl, reservedBit_holds h (by decide) (by decide)⟩

theorem wrctrlMalformedRsvd26 (v : Word) : Statement (.wrctrlMalformedRsvd26 v) := by
  intro h
  exact ⟨⟨"wrctrl.malformed.rsvd26", 0xff04000000, 0x4004000000⟩, by decide, rfl, reservedBit_holds h (by decide) (by decide)⟩

theorem wrctrlMalformedRsvd27 (v : Word) : Statement (.wrctrlMalformedRsvd27 v) := by
  intro h
  exact ⟨⟨"wrctrl.malformed.rsvd27", 0xff08000000, 0x4008000000⟩, by decide, rfl, reservedBit_holds h (by decide) (by decide)⟩

theorem wrctrlMalformedRsvd28 (v : Word) : Statement (.wrctrlMalformedRsvd28 v) := by
  intro h
  exact ⟨⟨"wrctrl.malformed.rsvd28", 0xff10000000, 0x4010000000⟩, by decide, rfl, reservedBit_holds h (by decide) (by decide)⟩

theorem wrctrlMalformedRsvd29 (v : Word) : Statement (.wrctrlMalformedRsvd29 v) := by
  intro h
  exact ⟨⟨"wrctrl.malformed.rsvd29", 0xff20000000, 0x4020000000⟩, by decide, rfl, reservedBit_holds h (by decide) (by decide)⟩

theorem wrctrlMalformedRsvd30 (v : Word) : Statement (.wrctrlMalformedRsvd30 v) := by
  intro h
  exact ⟨⟨"wrctrl.malformed.rsvd30", 0xff40000000, 0x4040000000⟩, by decide, rfl, reservedBit_holds h (by decide) (by decide)⟩

theorem wrctrlMalformedRsvd31 (v : Word) : Statement (.wrctrlMalformedRsvd31 v) := by
  intro h
  exact ⟨⟨"wrctrl.malformed.rsvd31", 0xff80000000, 0x4080000000⟩, by decide, rfl, reservedBit_holds h (by decide) (by decide)⟩

theorem wrblk (i : BitVec 4) (v : Word) : Statement (.wrblk i v) := by
  rintro -
  exact ⟨⟨"wrblk", 0xf000000000, 0x5000000000⟩, by decide, rfl, holds_of_fields (by simp [encode, writeCiw]; decide) (by simp [encode, writeCiw]; decide)
    (by simp only [encode, writeCiw, ciw_addr]; revert i; decide) (by simp [encode, writeCiw, Ciw.data])⟩

theorem wrStatus (v : Word) : Statement (.wrStatus v) := by
  rintro -
  exact ⟨⟨"wr.status", 0xff00000000, 0x4100000000⟩, by decide, rfl, holds_of_fields (by simp [encode, writeCiw]; decide) (by simp [encode, writeCiw]; decide)
    (by simp [encode, writeCiw]; decide) (by simp [encode, writeCiw, Ciw.data])⟩

theorem wrDigest (j : BitVec 3) (v : Word) : Statement (.wrDigest j v) := by
  rintro -
  exact ⟨⟨"wr.digest", 0xf800000000, 0x6000000000⟩, by decide, rfl, holds_of_fields (by simp [encode, writeCiw]; decide) (by simp [encode, writeCiw]; decide)
    (by simp only [encode, writeCiw, ciw_addr]; revert j; decide) (by simp [encode, writeCiw, Ciw.data])⟩

theorem wrRsvd02 (a : BitVec 1) (v : Word) : Statement (.wrRsvd02 a v) := by
  rintro -
  exact ⟨⟨"wr.rsvd.0x02", 0xfe00000000, 0x4200000000⟩, by decide, rfl, holds_of_fields (by simp [encode, writeCiw]; decide) (by simp [encode, writeCiw]; decide)
    (by simp only [encode, writeCiw, ciw_addr]; revert a; decide) (by simp [encode, writeCiw, Ciw.data])⟩

theorem wrRsvd04 (a : BitVec 2) (v : Word) : Statement (.wrRsvd04 a v) := by
  rintro -
  exact ⟨⟨"wr.rsvd.0x04", 0xfc00000000, 0x4400000000⟩, by decide, rfl, holds_of_fields (by simp [encode, writeCiw]; decide) (by simp [encode, writeCiw]; decide)
    (by simp only [encode, writeCiw, ciw_addr]; revert a; decide) (by simp [encode, writeCiw, Ciw.data])⟩

theorem wrRsvd08 (a : BitVec 3) (v : Word) : Statement (.wrRsvd08 a v) := by
  rintro -
  exact ⟨⟨"wr.rsvd.0x08", 0xf800000000, 0x4800000000⟩, by decide, rfl, holds_of_fields (by simp [encode, writeCiw]; decide) (by simp [encode, writeCiw]; decide)
    (by simp only [encode, writeCiw, ciw_addr]; revert a; decide) (by simp [encode, writeCiw, Ciw.data])⟩

theorem wrRsvd28 (a : BitVec 3) (v : Word) : Statement (.wrRsvd28 a v) := by
  rintro -
  exact ⟨⟨"wr.rsvd.0x28", 0xf800000000, 0x6800000000⟩, by decide, rfl, holds_of_fields (by simp [encode, writeCiw]; decide) (by simp [encode, writeCiw]; decide)
    (by simp only [encode, writeCiw, ciw_addr]; revert a; decide) (by simp [encode, writeCiw, Ciw.data])⟩

theorem wrRsvd30 (a : BitVec 4) (v : Word) : Statement (.wrRsvd30 a v) := by
  rintro -
  exact ⟨⟨"wr.rsvd.0x30", 0xf000000000, 0x7000000000⟩, by decide, rfl, holds_of_fields (by simp [encode, writeCiw]; decide) (by simp [encode, writeCiw]; decide)
    (by simp only [encode, writeCiw, ciw_addr]; revert a; decide) (by simp [encode, writeCiw, Ciw.data])⟩

theorem rdctrl (x : Word) : Statement (.rdctrl x) := by
  rintro -
  exact ⟨⟨"rdctrl", 0xff00000000, 0x0000000000⟩, by decide, rfl, holds_of_fields (by simp [encode, readCiw]; decide) (by simp [encode, readCiw]; decide)
    (by simp [encode, readCiw]; decide) (by simp [encode, readCiw, Ciw.data])⟩

theorem rdstat (x : Word) : Statement (.rdstat x) := by
  rintro -
  exact ⟨⟨"rdstat", 0xff00000000, 0x0100000000⟩, by decide, rfl, holds_of_fields (by simp [encode, readCiw]; decide) (by simp [encode, readCiw]; decide)
    (by simp [encode, readCiw]; decide) (by simp [encode, readCiw, Ciw.data])⟩

theorem rdblk (i : BitVec 4) (x : Word) : Statement (.rdblk i x) := by
  rintro -
  exact ⟨⟨"rdblk", 0xf000000000, 0x1000000000⟩, by decide, rfl, holds_of_fields (by simp [encode, readCiw]; decide) (by simp [encode, readCiw]; decide)
    (by simp only [encode, readCiw, ciw_addr]; revert i; decide) (by simp [encode, readCiw, Ciw.data])⟩

theorem rddig (j : BitVec 3) (x : Word) : Statement (.rddig j x) := by
  rintro -
  exact ⟨⟨"rddig", 0xf800000000, 0x2000000000⟩, by decide, rfl, holds_of_fields (by simp [encode, readCiw]; decide) (by simp [encode, readCiw]; decide)
    (by simp only [encode, readCiw, ciw_addr]; revert j; decide) (by simp [encode, readCiw, Ciw.data])⟩

theorem rdRsvd02 (a : BitVec 1) (x : Word) : Statement (.rdRsvd02 a x) := by
  rintro -
  exact ⟨⟨"rd.rsvd.0x02", 0xfe00000000, 0x0200000000⟩, by decide, rfl, holds_of_fields (by simp [encode, readCiw]; decide) (by simp [encode, readCiw]; decide)
    (by simp only [encode, readCiw, ciw_addr]; revert a; decide) (by simp [encode, readCiw, Ciw.data])⟩

theorem rdRsvd04 (a : BitVec 2) (x : Word) : Statement (.rdRsvd04 a x) := by
  rintro -
  exact ⟨⟨"rd.rsvd.0x04", 0xfc00000000, 0x0400000000⟩, by decide, rfl, holds_of_fields (by simp [encode, readCiw]; decide) (by simp [encode, readCiw]; decide)
    (by simp only [encode, readCiw, ciw_addr]; revert a; decide) (by simp [encode, readCiw, Ciw.data])⟩

theorem rdRsvd08 (a : BitVec 3) (x : Word) : Statement (.rdRsvd08 a x) := by
  rintro -
  exact ⟨⟨"rd.rsvd.0x08", 0xf800000000, 0x0800000000⟩, by decide, rfl, holds_of_fields (by simp [encode, readCiw]; decide) (by simp [encode, readCiw]; decide)
    (by simp only [encode, readCiw, ciw_addr]; revert a; decide) (by simp [encode, readCiw, Ciw.data])⟩

theorem rdRsvd28 (a : BitVec 3) (x : Word) : Statement (.rdRsvd28 a x) := by
  rintro -
  exact ⟨⟨"rd.rsvd.0x28", 0xf800000000, 0x2800000000⟩, by decide, rfl, holds_of_fields (by simp [encode, readCiw]; decide) (by simp [encode, readCiw]; decide)
    (by simp only [encode, readCiw, ciw_addr]; revert a; decide) (by simp [encode, readCiw, Ciw.data])⟩

theorem rdRsvd30 (a : BitVec 4) (x : Word) : Statement (.rdRsvd30 a x) := by
  rintro -
  exact ⟨⟨"rd.rsvd.0x30", 0xf000000000, 0x3000000000⟩, by decide, rfl, holds_of_fields (by simp [encode, readCiw]; decide) (by simp [encode, readCiw]; decide)
    (by simp only [encode, readCiw, ciw_addr]; revert a; decide) (by simp [encode, readCiw, Ciw.data])⟩

end Sys2Proof.Laws.EncodesInRow
end

