-- ==== Sys2Proof/Laws/Run.lean ====
section
/-! SUPPORT. The run of Host.Core at this machine, one step at a time. -/

namespace Sys2Proof.Machine

theorem run_zero (s : State) : Host.Core.run Sys2Proof.core 0 s = .next s := rfl

/-- A run of any machine whose first step answers a next state goes on from there. -/
theorem core_run_succ (M : Host.Core) (n : Nat) (s t : M.State) (h : M.step s = .next t) :
    M.run (n + 1) s = M.run n t := by
  rw [Host.Core.run, h]

/-- The same at this machine. -/
theorem run_succ {s t : State} (n : Nat) (h : step s = .next t) :
    Host.Core.run Sys2Proof.core (n + 1) s = Host.Core.run Sys2Proof.core n t :=
  core_run_succ Sys2Proof.core n s t h

/-- The step is total (R190): some next state, with one CIW fewer to present. -/
theorem step_next (s : State) : ∃ t, step s = .next t ∧ t.inputs = s.inputs.tail := by
  obtain ⟨t, h, hi, -⟩ := exec_effect (decode s.nextInput) s.takeInput
  exact ⟨t, h, hi⟩

end Sys2Proof.Machine
end

