-- ==== Sys2Proof/Tests/Slice0.lean ====
section
/-! SUPPORT. Tests: words written out from the spec's encoding, vectors of 95_test_vectors.md, and for every statement with
hypotheses a concrete case that meets them (`witness_…`). Expected values are the spec's, its file and section in each
comment. -/

set_option maxRecDepth 4000

open Sys2Proof Sys2Proof.Machine

/-! ## Small states -/

/-- The one block of "abc" (95_test_vectors.md section 2.3). -/
def abcBlock : Block := #v[0x61626380, 0, 0, 0, 0, 0, 0, 0, 0, 0, 0, 0, 0, 0, 0, 0x18]

/-- The 56-byte message "abcdbcde…nopq" and its two blocks (95_test_vectors.md section 2.3). -/
def message56 : List Byte :=
  (List.range 14).flatMap fun i => (List.range 4).map fun k => BitVec.ofNat 8 (0x61 + i + k)

def block56A : Block :=
  #v[0x61626364, 0x62636465, 0x63646566, 0x64656667, 0x65666768, 0x66676869, 0x6768696a, 0x68696a6b,
     0x696a6b6c, 0x6a6b6c6d, 0x6b6c6d6e, 0x6c6d6e6f, 0x6d6e6f70, 0x6e6f7071, 0x80000000, 0x00000000]

def block56B : Block := #v[0, 0, 0, 0, 0, 0, 0, 0, 0, 0, 0, 0, 0, 0, 0, 0x1c0]

/-- The digest of "abc" (95_test_vectors.md section 1.1). -/
def abcHash : Hash :=
  #v[0xba7816bf, 0x8f01cfea, 0x414140de, 0x5dae2223, 0xb00361a3, 0x96177a9c, 0xb410ff61, 0xf20015ad]

/-- After reset, with a block in the buffer. -/
def withBlock (M : Block) : CoreState := { CoreState.reset with BLK := M }

/-- One edge after an accepted initblock.last of the block (E0). -/
def afterLoad (M : Block) : CoreState := ciwStep (withBlock M) 0x4000000007

/-- A block in progress, at round `t`. -/
def inRound (t : BitVec 6) : CoreState := { CoreState.reset with fsm := .ROUND, t := t }

/-- The state before UPDATE. -/
def inUpdate (last : Bool) : CoreState := { CoreState.reset with fsm := .UPDATE, last := last }

/-- A finished hash: STATUS = 7. -/
def finalized : CoreState := { CoreState.reset with phase := .FINALIZED, valid := true }

/-- After reset and `wrctrl 0x8`: STATUS = 0x39. -/
def withError : CoreState := { CoreState.reset with err := true, errcode := 3 }

/-- The machine around a core, with nothing to present and nothing sampled. -/
def machine (s : CoreState) : State := { core := s, inputs := [], rdata := 0 }

/-- STATUS after the edge at which `w` is presented. -/
def statusAfter (s : CoreState) (w : Ciw) : Word := statusWord (ciwStep s w)

/-! ## Well-formedness: the check refuses a row whose bit is clear, and a row that is not the lowest -/

theorem test_wellFormed_refuses_clear_bit : ∀ i ∈ (malformedWrites 0x00000007).drop 2, ¬ i.WellFormed := by decide

theorem test_wellFormed_refuses_higher_bit : ∀ i ∈ (malformedWrites 0xFFFFFFF8).drop 3, ¬ i.WellFormed := by decide

theorem test_wellFormed_accepts_lowest_bit :
    (Instr.wrctrlMalformedRsvd3 0xFFFFFFF8).WellFormed ∧ (Instr.wrctrlMalformedRsvd17 0x80220002).WellFormed ∧
    (Instr.wrctrlMalformedRsvd31 0x80000002).WellFormed := by decide

/-! ## Decoding: every row, its word written out bit by bit (RST, WE, ADDR, DATA) -/

/-- R81, R85, R86: the reset class, the six command words, and the two malformed words below 8. -/
theorem test_decode_commands :
    decode 0b1_1_010110_1000000000000000_0000000000000111 = .reset true 0x16 0x80000007 ∧
    decode 0b0_1_000000_0000000000000000_0000000000000000 = .nop ∧
    decode 0b0_1_000000_0000000000000000_0000000000000001 = .init ∧
    decode 0b0_1_000000_0000000000000000_0000000000000010 = .block ∧
    decode 0b0_1_000000_0000000000000000_0000000000000110 = .blockLast ∧
    decode 0b0_1_000000_0000000000000000_0000000000000011 = .initblock ∧
    decode 0b0_1_000000_0000000000000000_0000000000000111 = .initblockLast ∧
    decode 0b0_1_000000_0000000000000000_0000000000000100 = .wrctrlMalformed4 ∧
    decode 0b0_1_000000_0000000000000000_0000000000000101 = .wrctrlMalformed5 := by decide

/-- R86: a CTRL word with reserved bit K (3 to 16) set, whatever its OP, LAST and higher bits. -/
theorem test_decode_reserved_bits_low :
    decode 0b0_1_000000_1000000000000000_0000000010001101 = .wrctrlMalformedRsvd3 0x8000008d ∧
    decode 0b0_1_000000_0000000000000000_0000000100010010 = .wrctrlMalformedRsvd4 0x00000112 ∧
    decode 0b0_1_000000_1000000000000000_0000001000100010 = .wrctrlMalformedRsvd5 0x80000222 ∧
    decode 0b0_1_000000_0000000000000000_0000010001000101 = .wrctrlMalformedRsvd6 0x00000445 ∧
    decode 0b0_1_000000_1000000000000000_0000100010000010 = .wrctrlMalformedRsvd7 0x80000882 ∧
    decode 0b0_1_000000_0000000000000000_0001000100000010 = .wrctrlMalformedRsvd8 0x00001102 ∧
    decode 0b0_1_000000_1000000000000000_0010001000000101 = .wrctrlMalformedRsvd9 0x80002205 ∧
    decode 0b0_1_000000_0000000000000000_0100010000000010 = .wrctrlMalformedRsvd10 0x00004402 ∧
    decode 0b0_1_000000_1000000000000000_1000100000000010 = .wrctrlMalformedRsvd11 0x80008802 ∧
    decode 0b0_1_000000_0000000000000001_0001000000000101 = .wrctrlMalformedRsvd12 0x00011005 ∧
    decode 0b0_1_000000_1000000000000010_0010000000000010 = .wrctrlMalformedRsvd13 0x80022002 ∧
    decode 0b0_1_000000_0000000000000100_0100000000000010 = .wrctrlMalformedRsvd14 0x00044002 ∧
    decode 0b0_1_000000_1000000000001000_1000000000000101 = .wrctrlMalformedRsvd15 0x80088005 ∧
    decode 0b0_1_000000_0000000000010001_0000000000000010 = .wrctrlMalformedRsvd16 0x00110002 := by decide

/-- R86: a CTRL word with reserved bit K (17 to 31) set, whatever its OP, LAST and higher bits. -/
theorem test_decode_reserved_bits_high :
    decode 0b0_1_000000_1000000000100010_0000000000000010 = .wrctrlMalformedRsvd17 0x80220002 ∧
    decode 0b0_1_000000_0000000001000100_0000000000000101 = .wrctrlMalformedRsvd18 0x00440005 ∧
    decode 0b0_1_000000_1000000010001000_0000000000000010 = .wrctrlMalformedRsvd19 0x80880002 ∧
    decode 0b0_1_000000_0000000100010000_0000000000000010 = .wrctrlMalformedRsvd20 0x01100002 ∧
    decode 0b0_1_000000_1000001000100000_0000000000000101 = .wrctrlMalformedRsvd21 0x82200005 ∧
    decode 0b0_1_000000_0000010001000000_0000000000000010 = .wrctrlMalformedRsvd22 0x04400002 ∧
    decode 0b0_1_000000_1000100010000000_0000000000000010 = .wrctrlMalformedRsvd23 0x88800002 ∧
    decode 0b0_1_000000_0001000100000000_0000000000000101 = .wrctrlMalformedRsvd24 0x11000005 ∧
    decode 0b0_1_000000_1010001000000000_0000000000000010 = .wrctrlMalformedRsvd25 0xa2000002 ∧
    decode 0b0_1_000000_0100010000000000_0000000000000010 = .wrctrlMalformedRsvd26 0x44000002 ∧
    decode 0b0_1_000000_1000100000000000_0000000000000101 = .wrctrlMalformedRsvd27 0x88000005 ∧
    decode 0b0_1_000000_1001000000000000_0000000000000010 = .wrctrlMalformedRsvd28 0x90000002 ∧
    decode 0b0_1_000000_1010000000000000_0000000000000010 = .wrctrlMalformedRsvd29 0xa0000002 ∧
    decode 0b0_1_000000_1100000000000000_0000000000000101 = .wrctrlMalformedRsvd30 0xc0000005 ∧
    decode 0b0_1_000000_1000000000000000_0000000000000010 = .wrctrlMalformedRsvd31 0x80000002 := by decide

/-- R83: the writes, by the bits of ADDR. -/
theorem test_decode_writes :
    decode 0b0_1_010110_1000000000000000_0001000000000001 = .wrblk 6 0x80001001 ∧
    decode 0b0_1_000001_1000000000000000_0010000000000001 = .wrStatus 0x80002001 ∧
    decode 0b0_1_100000_1000000000000000_0011000000000001 = .wrDigest 0 0x80003001 ∧
    decode 0b0_1_000011_1000000000000000_0100000000000001 = .wrRsvd02 1 0x80004001 ∧
    decode 0b0_1_000110_1000000000000000_0101000000000001 = .wrRsvd04 2 0x80005001 ∧
    decode 0b0_1_001111_1000000000000000_0110000000000001 = .wrRsvd08 7 0x80006001 ∧
    decode 0b0_1_101100_1000000000000000_0111000000000001 = .wrRsvd28 4 0x80007001 ∧
    decode 0b0_1_111001_1000000000000000_1000000000000001 = .wrRsvd30 9 0x80008001 := by decide

/-- R83: the reads, by the bits of ADDR; DATA is carried (log entry 5). -/
theorem test_decode_reads :
    decode 0b0_0_000000_1111000000000000_1001000000000101 = .rdctrl 0xf0009005 ∧
    decode 0b0_0_000001_1111000000000000_1010000000000101 = .rdstat 0xf000a005 ∧
    decode 0b0_0_010011_1111000000000000_1011000000000101 = .rdblk 3 0xf000b005 ∧
    decode 0b0_0_100110_1111000000000000_1100000000000101 = .rddig 6 0xf000c005 ∧
    decode 0b0_0_000011_1111000000000000_1101000000000101 = .rdRsvd02 1 0xf000d005 ∧
    decode 0b0_0_000100_1111000000000000_1110000000000101 = .rdRsvd04 0 0xf000e005 ∧
    decode 0b0_0_001111_1111000000000000_1111000000000101 = .rdRsvd08 7 0xf000f005 ∧
    decode 0b0_0_101010_1111000000000001_0000000000000101 = .rdRsvd28 2 0xf0010005 ∧
    decode 0b0_0_110101_1111000000000001_0001000000000101 = .rdRsvd30 5 0xf0011005 := by decide

/-- `decodeTableWord` numbers the word as the table does; a number of more than 40 bits is no CIW. -/
theorem test_decodeTableWord :
    decodeTableWord 40 0x5f00000018 = some (.wrblk 15 0x18) ∧ decodeTableWord 41 0x15f00000018 = none := by decide

/-! ## Mixing logic (95_test_vectors.md section 2.1) -/

theorem test_rotate_and_shift :
    ROTR 1 0x00000001 = 0x80000000 ∧ ROTR 31 0x80000000 = 0x00000001 ∧ ROTR 7 0x12345678 = 0xf02468ac ∧
    SHR 3 0x80000000 = 0x10000000 ∧ SHR 10 0xffffffff = 0x003fffff := by decide

theorem test_add_wraps :
    (0xffffffff : Word) + 0x00000001 = 0 ∧ (0x80000000 : Word) + 0x80000000 = 0 := by decide

theorem test_choose :
    Ch 0xff00ff00 0x12345678 0x9abcdef0 = 0x12bc56f0 ∧ Ch 0x00000000 0x12345678 0x9abcdef0 = 0x9abcdef0 ∧
    Ch 0x510e527f 0x9b05688c 0x1f83d9ab = 0x1f85c98c := by decide

theorem test_majority :
    Maj 0xff00ff00 0x12345678 0x9abcdef0 = 0x9a34de70 ∧ Maj 0x6a09e667 0xbb67ae85 0x3c6ef372 = 0x3a6fe667 := by decide

theorem test_bigSigma :
    bigSigma0 0x6a09e667 = 0xce20b47e ∧ bigSigma0 0x00000001 = 0x40080400 ∧
    bigSigma1 0x510e527f = 0x3587272b ∧ bigSigma1 0x00000001 = 0x04200080 := by decide

theorem test_smallSigma :
    smallSigma0 0x12345678 = 0xe7fce6ee ∧ smallSigma0 0x80000000 = 0x11002000 ∧
    smallSigma1 0x12345678 = 0xa1f78649 ∧ smallSigma1 0x80000000 = 0x00205000 := by decide

/-! ## Constants, schedule, rounds (95_test_vectors.md sections 2.2 to 2.4) -/

theorem test_constants :
    K 0 = 0x428a2f98 ∧ K 1 = 0x71374491 ∧ K 15 = 0xc19bf174 ∧ K 16 = 0xe49b69c1 ∧ K 63 = 0xc67178f2 ∧
    IV[0] = 0x6a09e667 ∧ IV[7] = 0x5be0cd19 := by decide

theorem test_schedule_of_abc :
    schedule abcBlock 0 = 0x61626380 ∧ schedule abcBlock 15 = 0x18 ∧ schedule abcBlock 16 = 0x61626380 ∧
    schedule abcBlock 17 = 0x000f0000 ∧ schedule abcBlock 18 = 0x7da86405 := by decide

/-- The window after E1 (section 2.3, row E1). -/
theorem test_window_after_first_round :
    (ciwStep (afterLoad abcBlock) idleCiw).Wwin = #v[0, 0, 0, 0, 0, 0, 0, 0, 0, 0, 0, 0, 0, 0, 0x18, 0x61626380] := by decide

/-- Round 0 of "abc" from IV (section 2.4, row 0), performed by the edge after the command. -/
theorem test_first_round_of_abc :
    (ciwStep (afterLoad abcBlock) idleCiw).work =
      ⟨0x5d6aebcd, 0x6a09e667, 0xbb67ae85, 0x3c6ef372, 0xfa2a4622, 0x510e527f, 0x9b05688c, 0x1f83d9ab⟩ := by decide

/-- Round 63 of "abc": row 63 of section 2.4 from row 62 with W[63]. -/
theorem test_last_round_of_abc :
    roundStep 63 ⟨0xd39a2165, 0x04d24d6c, 0xb85e2ce9, 0xb6ae8fff, 0xfb121210, 0x948d25b6, 0x961f4894, 0xb21bad3d⟩ 0x12b1edeb =
      ⟨0x506e3058, 0xd39a2165, 0x04d24d6c, 0xb85e2ce9, 0x5ef50f24, 0xfb121210, 0x948d25b6, 0x961f4894⟩ := by decide

/-- The UPDATE edge of "abc" (section 2.4): the digest, and STATUS = 7. -/
theorem test_update_of_abc :
    let s := { inUpdate true with
      work := ⟨0x506e3058, 0xd39a2165, 0x04d24d6c, 0xb85e2ce9, 0x5ef50f24, 0xfb121210, 0x948d25b6, 0x961f4894⟩ }
    (ciwStep s idleCiw).H =
      #v[0xba7816bf, 0x8f01cfea, 0x414140de, 0x5dae2223, 0xb00361a3, 0x96177a9c, 0xb410ff61, 0xf20015ad] ∧
    statusAfter s idleCiw = 0x7 := by decide

/-- Round 0 of the zero block from H = 0: a = e = K[0] (section 2.4, corner case). -/
theorem test_round_of_zeros : roundStep 0 ⟨0, 0, 0, 0, 0, 0, 0, 0⟩ 0 = ⟨0x428a2f98, 0, 0, 0, 0x428a2f98, 0, 0, 0⟩ := by decide

/-- The digest of "abc" (section 1.1). -/
theorem test_abc_digest : compress IV abcBlock = abcHash := by decide +kernel

/-! ## Transactions (95_test_vectors.md section 2.7): STATUS after the edge, from four start states -/

theorem test_status_after_reset :
    statusAfter CoreState.reset 0x4000000000 = 0x01 ∧ statusAfter CoreState.reset 0x4000000001 = 0x01 ∧
    statusAfter CoreState.reset 0x4000000002 = 0x00 ∧ statusAfter CoreState.reset 0x4000000004 = 0x39 ∧
    statusAfter CoreState.reset 0x4000000005 = 0x39 ∧ statusAfter CoreState.reset 0x4080000002 = 0x39 ∧
    statusAfter CoreState.reset 0x4100000000 = 0x49 ∧ statusAfter CoreState.reset 0x6300000001 = 0x49 ∧
    statusAfter CoreState.reset 0x4200000001 = 0x49 ∧ statusAfter CoreState.reset 0x6800000001 = 0x49 ∧
    statusAfter CoreState.reset 0x5f00000018 = 0x01 := by decide

theorem test_status_while_busy :
    statusAfter (inRound 0) 0x4000000000 = 0x00 ∧ statusAfter (inRound 0) 0x4000000001 = 0x18 ∧
    statusAfter (inRound 0) 0x4000000002 = 0x18 ∧ statusAfter (inRound 0) 0x4000000007 = 0x18 ∧
    statusAfter (inRound 0) 0x4000000005 = 0x38 ∧ statusAfter (inRound 0) 0x6000000000 = 0x48 := by decide

theorem test_status_when_finalized :
    statusAfter finalized 0x4000000002 = 0x2f ∧ statusAfter finalized 0x4000000006 = 0x2f ∧
    statusAfter finalized 0x4000000001 = 0x01 ∧ statusAfter finalized 0x4000000003 = 0x00 ∧
    statusAfter finalized 0x4000000000 = 0x07 := by decide

theorem test_status_with_error :
    statusAfter withError 0x4100000000 = 0x39 ∧ statusAfter withError 0x4000000001 = 0x01 ∧
    statusAfter withError 0x4000000002 = 0x38 := by decide

/-- Reads: `rdstat`, `rddig 7` and `rdblk 3` after reset, and `rd 0x3f`. -/
theorem test_reads_after_reset :
    readData CoreState.reset 0x01 = 0x00000001 ∧ readData CoreState.reset 0x27 = 0x5be0cd19 ∧
    readData CoreState.reset 0x13 = 0 ∧ readData CoreState.reset 0x3f = 0 := by decide

/-- `wrblk 15, 0x18` after reset, and `wrblk 0` while busy. -/
theorem test_wrblk :
    readBLK (ciwStep CoreState.reset 0x5f00000018) 15 = 0x18 ∧
    readBLK (ciwStep (inRound 0) 0x50deadbeef) 0 = 0xdeadbeef := by decide

/-- A CIW with RST = 1 and WE = 1 is a reset: STATUS = 1 (section 2.8). -/
theorem test_reset_ignores_the_write : ciwStep (inRound 10) 0xc000000007 = CoreState.reset := by decide

/-- One step of the machine itself: `rddig 7`, from the list of CIWs to rdata. -/
theorem test_step_samples_rdata :
    step { State.reset with inputs := [0x2700000000] } = .next { State.reset with rdata := 0x5be0cd19 } := by rfl

/-! ## Padding (95_test_vectors.md sections 1.1 and 2.5) -/

theorem test_pad_abc : padMessage .STANDARD64 [0x61, 0x62, 0x63] = .ok [abcBlock] := by rfl

theorem test_pad_empty :
    padMessage .STANDARD64 [] = .ok [#v[0x80000000, 0, 0, 0, 0, 0, 0, 0, 0, 0, 0, 0, 0, 0, 0, 0]] := by rfl

theorem test_pad_56 : padMessage .STANDARD64 message56 = .ok [block56A, block56B] := by rfl

/-- The column z at the lengths around a block boundary. -/
theorem test_zero_bytes :
    zeroBytes 0 = 55 ∧ zeroBytes 55 = 0 ∧ zeroBytes 56 = 63 ∧ zeroBytes 63 = 56 ∧ zeroBytes 64 = 55 ∧
    zeroBytes 119 = 0 ∧ zeroBytes 120 = 63 ∧ zeroBytes 1000 = 15 := by decide

/-- The rendering of the digest of "abc" (section 1.1). -/
theorem test_digest_hex_of_abc :
    digestHex abcHash = "ba7816bf8f01cfea414140de5dae2223b00361a396177a9cb410ff61f20015ad".toList := by decide

/-- P5 and its listing (section 3). -/
theorem test_assemble_P5 :
    assembleProgram finalized [.reset, .wrctrl 0x102, .rdstat, .wrctrl 0x5, .rdstat, .rd 0x3f, .rdctrl, .init, .rdstat] =
      [0x8000000000, 0x4000000102, 0x0100000000, 0x4000000005, 0x0100000000, 0x3f00000000, 0x0000000000, 0x4000000001,
       0x0100000000] := by decide

/-- `waitready` reads until READY: once on an idle core, twice before UPDATE, and the 66 reads of P1's listing after a
command. -/
theorem test_waitready :
    assemble finalized .waitready = [0x0100000000] ∧ assemble (inUpdate true) .waitready = [0x0100000000, 0x0100000000] ∧
    (assemble (inRound 0) .waitready).length = 66 := by decide +kernel

/-! ## Witnesses: each statement's hypotheses are met -/

theorem witness_DecodeOfEncodeIsTheInstruction : (Instr.wrctrlMalformedRsvd16 0x00110002).WellFormed := by decide

theorem witness_OnlyWiderNumbersAreNoTransaction : 2 ^ 40 - 1 < 2 ^ 40 ∧ 2 ^ 40 ≤ 2 ^ 40 := by decide

theorem witness_StepRunsTheDecodedTransaction :
    (machine (inRound 63)).inputs = [] ∧
    ({ machine (inRound 63) with inputs := [0x4000000007] }).inputs = 0x4000000007 :: [] := by decide

theorem witness_RdataShowsTheAddressedRegister :
    (0x27 : Addr).toNat < 64 ∧ readData CoreState.reset 0x27 ≠ readData CoreState.reset 0x28 := by decide

theorem witness_RunFoldsThePortStep :
    ({ machine (inRound 0) with inputs := [0, 0, 1] }).inputs = [0, 0] ++ [1] := by decide

theorem witness_FetchWordIsWhatTheNextStepRuns :
    decodeTableWord 40 0x5061626380 = some (.wrblk 0 0x61626380) := by decide

/-- The three start states of the command statements: IDLE and ACCEPTING, IDLE and FINALIZED, busy (both kinds). -/
theorem witness_command_states :
    (machine CoreState.reset).core.fsm = .IDLE ∧ (machine CoreState.reset).core.phase = .ACCEPTING ∧
    (machine finalized).core.fsm = .IDLE ∧ (machine finalized).core.phase = .FINALIZED ∧
    (machine (inRound 63)).core.fsm ≠ .IDLE ∧ (machine (inUpdate true)).core.fsm ≠ .IDLE := by decide

/-- The two commands of each of the block statements. -/
theorem witness_command_choice :
    (∃ last, (Instr.blockLast = .block ∧ last = false) ∨ (Instr.blockLast = .blockLast ∧ last = true)) ∧
    (∃ last, (Instr.initblock = .initblock ∧ last = false) ∨ (Instr.initblock = .initblockLast ∧ last = true)) := by decide

theorem witness_MalformedCommandWordsRecordErrCtrl :
    Instr.wrctrlMalformed4 ∈ malformedWrites 0 ∧ Instr.wrctrlMalformedRsvd31 0x80000002 ∈ malformedWrites 0x80000002 := by
  decide

/-- Each clause, at the ends of its range: 0x4 and 0x5 fall under their own clauses only, the words with the lowest, the
highest and every reserved bit under the third. -/
theorem witness_EveryMalformedWordIsRejected :
    (0x4 : Word).extractLsb' 3 29 = 0 ∧ (0x5 : Word).extractLsb' 3 29 = 0 ∧ (0x8 : Word).extractLsb' 3 29 ≠ 0 ∧
    (0x80000000 : Word).extractLsb' 3 29 ≠ 0 ∧ (0xFFFFFFFF : Word).extractLsb' 3 29 ≠ 0 := by decide

/-- Every row named, and each range of addresses at its ends. -/
theorem witness_ReadOnlyAndReservedWritesRecordErrAddr :
    Instr.wrRsvd30 15 1 ∈ [.wrStatus 1, .wrDigest 0 1, .wrRsvd02 0 1, .wrRsvd04 0 1, .wrRsvd08 0 1, .wrRsvd28 0 1, .wrRsvd30 15 1] ∧
    ∀ a ∈ [(0x01 : Addr), 0x0F, 0x20, 0x27, 0x28, 0x3F], (0x01 ≤ a.toNat ∧ a.toNat ≤ 0x0F) ∨ 0x20 ≤ a.toNat := by decide

theorem witness_BlockBufferWriteStoresOneWord : (14 : BitVec 4) ≠ 15 := by decide

theorem witness_CtrlAndReservedReadsReturnZero :
    Instr.rdRsvd30 15 1 ∈ [.rdctrl 1, .rdRsvd02 0 1, .rdRsvd04 0 1, .rdRsvd08 0 1, .rdRsvd28 0 1, .rdRsvd30 15 1] ∧
    ∀ a ∈ [(0x00 : Addr), 0x02, 0x0F, 0x28, 0x3F], a = 0x00 ∨ (0x02 ≤ a.toNat ∧ a.toNat ≤ 0x0F) ∨ 0x28 ≤ a.toNat := by decide

theorem witness_EveryReadActsAsIdle :
    Ciw.rst 0x3FFFFFFFFF = false ∧ Ciw.we 0x3FFFFFFFFF = false ∧ (machine finalized).core.fsm = .IDLE := by decide

/-- Each range of the map at its ends, and no address in two of them. -/
theorem witness_AddressMapOfReads :
    (0x10 : Addr).toNat = 0x10 + (0 : BitVec 4).toNat ∧ (0x1F : Addr).toNat = 0x10 + (15 : BitVec 4).toNat ∧
    (0x20 : Addr).toNat = 0x20 + (0 : BitVec 3).toNat ∧ (0x27 : Addr).toNat = 0x20 + (7 : BitVec 3).toNat ∧
    (∀ a ∈ [(0x02 : Addr), 0x0F, 0x28, 0x3F], (0x02 ≤ a.toNat ∧ a.toNat ≤ 0x0F) ∨ (0x28 ≤ a.toNat ∧ a.toNat ≤ 0x3F)) ∧
    (∀ a ∈ [(0x00 : Addr), 0x01, 0x10, 0x1F, 0x20, 0x27], ¬ ((0x02 ≤ a.toNat ∧ a.toNat ≤ 0x0F) ∨ 0x28 ≤ a.toNat)) := by decide

/-- A transaction for each code, one that raises none, and one that clears the record. -/
theorem witness_errors :
    rejection (inRound 0) 0x4000000001 = some .ERR_BUSY ∧ rejection finalized 0x4000000006 = some .ERR_FINAL ∧
    rejection withError 0x4000000005 = some .ERR_CTRL ∧ rejection CoreState.reset 0x4100000000 = some .ERR_ADDR ∧
    rejection withError 0x4100000000 = some .ERR_ADDR ∧ rejection (inRound 0) 0x4000000000 = none ∧
    rejection withError 0x4000000001 = none := by decide

theorem witness_FirstErrorIsRecordedAndKept :
    exec (decode 0x4000000000) (machine withError) = .next (machine withError) ∧
    ¬ StartsHash (decode 0x4000000000) ∧ StartsHash (decode 0x4000000001) ∧ Ciw.rst 0x4000000001 = false := by
  refine ⟨rfl, ?_, .inl rfl, rfl⟩
  rw [show decode 0x4000000000 = .nop by decide]
  simp [StartsHash]

theorem witness_RejectedWriteChangesOnlyTheErrorRecord : rejection (inUpdate true) 0x4000000007 = some .ERR_BUSY := by decide

theorem witness_ErrorRecordIsClearedOnlyByANewHash :
    ∃ t, exec .initblockLast (machine withError) = .next t ∧ (machine withError).core.err = true ∧ t.core.err = false :=
  ⟨_, rfl, rfl, rfl⟩

/-- H changes at a reset, at an accepted init, and at UPDATE. -/
theorem witness_HashStateWriters :
    (∃ t, exec (.reset false 0 0) (machine { CoreState.reset with H := abcHash }) = .next t ∧ t.core.H ≠ abcHash) ∧
    (∃ t, exec .init (machine { CoreState.reset with H := abcHash }) = .next t ∧ t.core.H ≠ abcHash) ∧
    (∃ t, exec .nop (machine { inUpdate false with H := abcHash, work := ⟨1, 0, 0, 0, 0, 0, 0, 0⟩ }) = .next t ∧
      t.core.H ≠ abcHash) :=
  ⟨⟨_, rfl, by decide⟩, ⟨_, rfl, by decide⟩, ⟨_, rfl, by decide⟩⟩

theorem witness_WorkingRegisterWriters :
    ∃ t, exec .block (machine CoreState.reset) = .next t ∧ t.core.work ≠ (machine CoreState.reset).core.work :=
  ⟨_, rfl, by decide⟩

theorem witness_BlockBufferWriters :
    ∃ t, exec (.wrblk 15 0x18) (machine CoreState.reset) = .next t ∧ readBLK t.core 15 ≠ readBLK CoreState.reset 15 :=
  ⟨_, rfl, by decide⟩

/-- valid is set at UPDATE and cleared by a block command; last is set by block.last; phase by UPDATE and init. -/
theorem witness_ValidLastAndPhaseWriters :
    (∃ t, exec .nop (machine (inUpdate true)) = .next t ∧ t.core.valid = true ∧ t.core.phase = .FINALIZED) ∧
    (∃ t, exec .block (machine { CoreState.reset with valid := true }) = .next t ∧ t.core.valid = false) ∧
    (∃ t, exec .blockLast (machine CoreState.reset) = .next t ∧ t.core.last = true) ∧
    (∃ t, exec .init (machine finalized) = .next t ∧ t.core.phase = .ACCEPTING) ∧ ¬ IsReset .nop :=
  ⟨⟨_, rfl, rfl, rfl⟩, ⟨_, rfl, rfl⟩, ⟨_, rfl, rfl⟩, ⟨_, rfl, rfl⟩, by simp [IsReset]⟩

/-- A ROUND edge with t = 63 and one with t = 62; UPDATE edges with last = 0 and 1; a CIW that is no reset. -/
theorem witness_core_edges :
    (inRound 63).fsm = .ROUND ∧ (inRound 63).t = 63 ∧ (inRound 62).fsm = .ROUND ∧ (inRound 62).t ≠ 63 ∧
    (inUpdate true).fsm = .UPDATE ∧ (inUpdate false).fsm = .UPDATE ∧ Ciw.rst 0x4000000007 = false := by decide

theorem witness_bit_positions : 0 < 1 ∧ 1 < 32 ∧ 0 < 31 ∧ 31 < 32 ∧ 0 + 31 ≤ 31 ∧ ¬ 31 + 31 ≤ 31 := by decide

/-- The two clauses of the recurrence at 15 and 16, the last round's word at 63. -/
theorem witness_ScheduleFollowsTheRecurrence : 15 < 16 ∧ 16 ≤ 16 ∧ 63 < 64 ∧ ¬ 64 < 64 := by decide

/-! Inv holds in each phase of a block. -/
theorem reset_inv : CoreState.reset.Inv := by constructor <;> decide

theorem finalized_inv : finalized.Inv := by constructor <;> decide

theorem inRound_inv : (inRound 63).Inv := by constructor <;> decide

theorem inUpdate_inv : (inUpdate true).Inv := by constructor <;> decide

theorem witness_EveryStepKeepsTheInvariants :
    (machine finalized).core.Inv ∧ ∃ t, step (machine finalized) = .next t := ⟨finalized_inv, _, rfl⟩

/-- A list of CIWs that never resets, of any length. -/
theorem noReset_idles (n : Nat) : NoReset (List.replicate n idleCiw) ∧ (List.replicate n idleCiw).length = n := by
  refine ⟨fun w h => ?_, List.length_replicate⟩
  rw [List.eq_of_mem_replicate h]; decide

theorem witness_BlockTakesSixtyFiveFurtherEdges :
    (inRound 0).fsm = .ROUND ∧ (inRound 0).t = 0 ∧
    ∀ n ∈ [0, 63, 64, 65], NoReset (List.replicate n idleCiw) ∧ (List.replicate n idleCiw).length = n :=
  ⟨rfl, rfl, fun n _ => noReset_idles n⟩

theorem witness_CompressionOfOneBlock :
    let s := { machine finalized with inputs := blockCommandCiw true true :: List.replicate 65 idleCiw ++ [] }
    s.core.fsm = .IDLE ∧ (true = true ∨ s.core.phase = .ACCEPTING) ∧ (List.replicate 65 idleCiw).length = 65 ∧
    NoReset (List.replicate 65 idleCiw) ∧ s.inputs = blockCommandCiw true true :: List.replicate 65 idleCiw ++ [] ∧
    (false = true ∨ (machine CoreState.reset).core.phase = .ACCEPTING) :=
  ⟨rfl, .inl rfl, List.length_replicate, (noReset_idles 65).1, rfl, .inr rfl⟩

/-- An accepted block.last, an accepted initblock, and 65 idle cycles after it. -/
theorem witness_block_commands_run_their_block :
    (∃ t, exec .blockLast (machine CoreState.reset) = .next t) ∧ (∃ t, exec .initblock (machine finalized) = .next t) ∧
    (List.replicate 65 idleCiw).length = 65 ∧ NoReset (List.replicate 65 idleCiw) :=
  ⟨⟨_, rfl⟩, ⟨_, rfl⟩, List.length_replicate, (noReset_idles 65).1⟩

theorem witness_ResetStateHoldsTheResetValues :
    Ciw.rst 0xC000000007 = true ∧ ∃ t, exec (decode 0xC000000007) (machine (inRound 10)) = .next t := ⟨rfl, _, rfl⟩

/-- "abc", one block, 65 idle cycles. -/
theorem witness_HostProcedureComputesTheDigest :
    let work := [(abcBlock, List.replicate 65 idleCiw)]
    padMessage .STANDARD64 [0x61, 0x62, 0x63] = .ok (work.map Prod.fst) ∧
    (∀ p ∈ work, p.2.length = 65 ∧ NoReset p.2) ∧
    ({ machine finalized with inputs := 0x8000000000 :: hashInputs true work ++ [] }).inputs =
      0x8000000000 :: hashInputs true work ++ [] := by
  refine ⟨rfl, fun p hp => ?_, rfl⟩
  rw [List.mem_singleton.mp hp]
  exact ⟨List.length_replicate, (noReset_idles 65).1⟩

/-- A list of CIWs is checked for resets one by one. -/
theorem noReset_of_all {ws : List Ciw} (h : ws.all (fun w => !w.rst) = true) : NoReset ws := fun w hw => by
  simpa using List.all_eq_true.mp h w hw

/-- The 56-byte message: its second block is loaded while the first is in progress, sixteen writes and 49 idle cycles. -/
theorem witness_HostMayLoadTheNextBlockDuringTheRounds :
    let work := [(block56A, loadblkCiws block56B ++ List.replicate 49 idleCiw), (block56B, List.replicate 65 idleCiw)]
    padMessage .STANDARD64 message56 = .ok (work.map Prod.fst) ∧ (work.map Prod.fst).head? = some block56A ∧
    (∀ p ∈ work, p.2.length = 65 ∧ NoReset p.2) ∧ work.IsChain (fun p q => p.2.foldl loadWord p.1 = q.1) ∧
    ({ machine finalized with
        inputs := 0x8000000000 :: loadblkCiws block56A ++ overlappedInputs true work ++ [] }).inputs =
      0x8000000000 :: loadblkCiws block56A ++ overlappedInputs true work ++ [] := by
  refine ⟨test_pad_56, rfl, fun p hp => ?_, ?_, rfl⟩
  · simp only [List.mem_cons, List.not_mem_nil, or_false] at hp
    rcases hp with rfl | rfl
    · exact ⟨rfl, noReset_of_all (by decide)⟩
    · exact ⟨List.length_replicate, (noReset_idles 65).1⟩
  · exact List.isChain_pair.mpr (by decide)

/-- From FINALIZED: a rejected command, a read and a write of BLK are no reset and start no hash. -/
theorem witness_FinalizedDigestDoesNotChange :
    finalized.Inv ∧ finalized.phase = .FINALIZED ∧
    ∀ w ∈ [(0x4000000002 : Ciw), 0x2000000000, 0x5000000001], ¬ IsReset (decode w) ∧ ¬ StartsHash (decode w) := by
  refine ⟨finalized_inv, rfl, fun w hw => ?_⟩
  simp only [List.mem_cons, List.not_mem_nil, or_false] at hw
  rcases hw with rfl | rfl | rfl
  · rw [show decode 0x4000000002 = .block by decide]; simp [IsReset, StartsHash]
  · rw [show decode 0x2000000000 = .rddig 0 0 by decide]; simp [IsReset, StartsHash]
  · rw [show decode 0x5000000001 = .wrblk 0 1 by decide]; simp [IsReset, StartsHash]

/-- Two states that differ in a..h, Wwin and t while IDLE. -/
theorem witness_HiddenStateIsNeverObserved :
    CoreState.reset.SameToHost { CoreState.reset with work := ⟨1, 2, 3, 4, 5, 6, 7, 8⟩, Wwin := abcBlock, t := 5 } :=
  ⟨rfl, rfl, rfl, rfl, rfl, rfl, rfl, rfl, nofun, nofun⟩

theorem witness_BlockAfterResetIsInitblock :
    ∃ t, exec (.reset true 0x3F 0xFFFFFFFF) (machine (inRound 10)) = .next t := ⟨_, rfl⟩

/-- A message of 55 bytes fits one block, one of 56 needs two, and one of 2^61 bytes is too long. -/
theorem witness_padding :
    (List.replicate 55 (0x61 : Byte)).length < 2 ^ 61 ∧ (55 + 8) / 64 + 1 = 1 ∧ (56 + 8) / 64 + 1 = 2 ∧
    2 ^ 61 ≤ (List.replicate (2 ^ 61) (0x61 : Byte)).length := by
  refine ⟨by decide, by decide, by decide, ?_⟩
  rw [List.length_replicate]

theorem witness_PackedWordsAreBigEndian :
    ∃ blocks, padMessage .STANDARD64 [0x61, 0x62, 0x63] = .ok blocks ∧ 0 < blocks.length := ⟨_, test_pad_abc, by decide⟩

/-- A block.last accepted on an idle core in ACCEPTING. -/
theorem witness_WaitreadyAfterACommandMakesSixtySixReads :
    (machine CoreState.reset).core.fsm = .IDLE ∧ rejection CoreState.reset (encode .blockLast) = none ∧
    ∃ t, exec .blockLast (machine CoreState.reset) = .next t := ⟨rfl, by decide, _, rfl⟩

/-- "abc", from a busy core. -/
theorem witness_HostProgramComputesTheDigest :
    padMessage .STANDARD64 [0x61, 0x62, 0x63] = .ok [abcBlock] ∧
    ({ machine (inRound 10) with inputs := assembleProgram (inRound 10) (hashStatements [abcBlock]) ++ [] }).inputs =
      assembleProgram (machine (inRound 10)).core (hashStatements [abcBlock]) ++ [] := ⟨test_pad_abc, rfl⟩

theorem witness_PaddingLayout : (padBytes [0x61, 0x62, 0x63]).length = 64 ∧ 3 < 4 ∧ 55 + 8 < 64 := by decide
end

section
/-! SUPPORT. The reset edge and the reset state (10_state.md R43, 70_reset_and_hazards.md R260). -/

namespace Sys2Proof.Machine

/-- The state the model resets to is the table of R43; IV is written out in one and named in the other. -/
theorem coreState_reset_eq_resetValues : CoreState.reset = resetValues := rfl

/-- RST = 1 makes a CIW a reset, whatever its other bits are (R89). -/
theorem decode_of_rst {w : Ciw} (h : w.rst = true) : decode w = .reset w.we w.addr w.data := by
  rw [decode, if_pos h]

theorem exec_reset (we : Bool) (addr : Addr) (data : Word) (s : State) :
    exec (.reset we addr data) s = .next { s with core := CoreState.reset, rdata := readData s.core addr } := rfl

theorem core_of_exec_reset {we : Bool} {addr : Addr} {data : Word} {s t : State}
    (h : exec (.reset we addr data) s = .next t) : t.core = CoreState.reset := by
  cases (exec_reset we addr data s).symm.trans h
  rfl

@[simp] theorem statusWord_reset : statusWord CoreState.reset = 0x00000001 := by decide

@[simp] theorem readDIGEST_reset (j : BitVec 3) : readDIGEST CoreState.reset j = IV[j.toNat]'j.isLt := rfl

@[simp] theorem readBLK_reset (i : BitVec 4) : readBLK CoreState.reset i = 0 := by
  simp [readBLK, CoreState.reset]

/-- Settles O12: a CIW with RST = 1 decodes to a reset, whose edge gives the table of R43, and the reads follow from it. -/
theorem resetStateHoldsTheResetValues : Obligations.ResetStateHoldsTheResetValues := by
  unfold Obligations.ResetStateHoldsTheResetValues
  refine ⟨coreState_reset_eq_resetValues, fun s t w hrst hexec => ?_, statusWord_reset, readDIGEST_reset, readBLK_reset⟩
  rw [decode_of_rst hrst] at hexec
  exact (core_of_exec_reset hexec).trans coreState_reset_eq_resetValues

end Sys2Proof.Machine
end

section
/-! SUPPORT. The mixing functions bit by bit (40_round_functions.md R100 to R108). -/

namespace Sys2Proof.Machine

/-- The two shifts of R100 never meet in a bit: below 32 - n the right shift gives it, from there on the left shift. At n = 0 it
holds too. -/
theorem ROTR_getLsbD {x : Word} {n i : Nat} (hn : n < 32) (hi : i < 32) :
    (ROTR n x).getLsbD i = x.getLsbD ((i + n) % 32) := by
  simp only [ROTR, BitVec.getLsbD_or, BitVec.getLsbD_ushiftRight, BitVec.getLsbD_shiftLeft, Nat.add_comm n i]
  by_cases hlow : i + n < 32
  · have hleft : i < 32 - n := by omega
    simp [hleft, Nat.mod_eq_of_lt hlow]
  · have hright : x.getLsbD (i + n) = false := BitVec.getLsbD_of_ge x (i + n) (by omega)
    have hleft : ¬ i < 32 - n := by omega
    have hwrap : (i + n) % 32 = i - (32 - n) := by omega
    simp [hright, hleft, hwrap, hi]

@[simp] theorem SHR_getLsbD (x : Word) (n i : Nat) : (SHR n x).getLsbD i = x.getLsbD (i + n) := by
  rw [SHR, BitVec.getLsbD_ushiftRight, Nat.add_comm]

/-- Settles O35: a rotated bit wraps around, and a shifted bit past 31 is 0. -/
theorem rotationsAndShiftsBitByBit : Obligations.RotationsAndShiftsBitByBit := by
  unfold Obligations.RotationsAndShiftsBitByBit
  intro x n i _ hn hi
  refine ⟨ROTR_getLsbD hn hi, ?_⟩
  rw [SHR_getLsbD]
  split
  · rfl
  · exact BitVec.getLsbD_of_ge x (i + n) (by omega)

theorem Ch_getLsbD {x y z : Word} {i : Nat} (hi : i < 32) :
    (Ch x y z).getLsbD i = if x.getLsbD i then y.getLsbD i else z.getLsbD i := by
  simp only [Ch, BitVec.getLsbD_xor, BitVec.getLsbD_and, BitVec.getLsbD_not, hi]
  cases x.getLsbD i <;> simp

/-- The truth table of three bits: the XOR of their pairwise ANDs is their majority. -/
theorem xor_pairwise_and_iff_two_le (p q r : Bool) :
    ((p && q) ^^ (p && r) ^^ (q && r)) = true ↔ 2 ≤ p.toNat + q.toNat + r.toNat := by
  revert p q r
  decide

theorem Maj_getLsbD (x y z : Word) (i : Nat) :
    (Maj x y z).getLsbD i =
      ((x.getLsbD i && y.getLsbD i) ^^ (x.getLsbD i && z.getLsbD i) ^^ (y.getLsbD i && z.getLsbD i)) := by
  simp only [Maj, xor3_getLsbD, BitVec.getLsbD_and]

/-- Settles O36: Ch by the value of x's bit, Maj by the truth table of the three bits. -/
theorem chooseAndMajorityBitByBit : Obligations.ChooseAndMajorityBitByBit := by
  unfold Obligations.ChooseAndMajorityBitByBit
  intro x y z i hi
  refine ⟨Ch_getLsbD hi, ?_⟩
  rw [Maj_getLsbD]
  exact xor_pairwise_and_iff_two_le _ _ _

/-- Σ0 and Σ1 are each three rotations (R105, R106). -/
theorem xor3_ROTR_getLsbD {x : Word} {l m n i : Nat} (hl : l < 32) (hm : m < 32) (hn : n < 32) (hi : i < 32) :
    (xor3 (ROTR l x) (ROTR m x) (ROTR n x)).getLsbD i =
      (x.getLsbD ((i + l) % 32) ^^ x.getLsbD ((i + m) % 32) ^^ x.getLsbD ((i + n) % 32)) := by
  rw [xor3_getLsbD, ROTR_getLsbD hl hi, ROTR_getLsbD hm hi, ROTR_getLsbD hn hi]

/-- σ0 and σ1 are each two rotations and a shift (R107, R108). -/
theorem xor3_ROTR_SHR_getLsbD {x : Word} {l m n i : Nat} (hl : l < 32) (hm : m < 32) (hi : i < 32) :
    (xor3 (ROTR l x) (ROTR m x) (SHR n x)).getLsbD i =
      (x.getLsbD ((i + l) % 32) ^^ x.getLsbD ((i + m) % 32) ^^ x.getLsbD (i + n)) := by
  rw [xor3_getLsbD, ROTR_getLsbD hl hi, ROTR_getLsbD hm hi, SHR_getLsbD]

/-- Settles O37: the bits of three rotations, or of two rotations and a shift, at the amounts of R105 to R108. -/
theorem sigmaFunctionsBitByBit : Obligations.SigmaFunctionsBitByBit := by
  unfold Obligations.SigmaFunctionsBitByBit
  intro x i hi
  refine ⟨?bigSigma0, ?bigSigma1, ?smallSigma0, ?smallSigma1⟩
  case bigSigma0 => exact xor3_ROTR_getLsbD (by decide) (by decide) (by decide) hi
  case bigSigma1 => exact xor3_ROTR_getLsbD (by decide) (by decide) (by decide) hi
  case smallSigma0 => exact xor3_ROTR_SHR_getLsbD (by decide) (by decide) hi
  case smallSigma1 => exact xor3_ROTR_SHR_getLsbD (by decide) (by decide) hi

end Sys2Proof.Machine
end

section
/-! Proofs of the family of 41_message_padding.md: the host's length precondition (R136). -/

namespace Sys2Proof.Machine

theorem padMessage_standard64_of_lt {B : List Byte} (h : B.length < 2 ^ 61) :
    padMessage .STANDARD64 B = .ok (blocksOf (packWords (padBytes B))) :=
  if_pos h

theorem padMessage_standard64_of_ge {B : List Byte} (h : 2 ^ 61 ≤ B.length) :
    padMessage .STANDARD64 B = .error .inputTooLarge :=
  if_neg (Nat.not_lt.mpr h)

/-- Settles O54: below 2^61 bytes the host answers with blocks, which are not the error; from there on with the error. -/
theorem overlongMessagesAreRejectedByTheHost : Obligations.OverlongMessagesAreRejectedByTheHost := by
  unfold Obligations.OverlongMessagesAreRejectedByTheHost
  intro B
  refine ⟨fun hrejected => ?_, padMessage_standard64_of_ge⟩
  by_contra hlong
  rw [padMessage_standard64_of_lt (Nat.not_le.mp hlong)] at hrejected
  cases hrejected

end Sys2Proof.Machine
end

section
/-! SUPPORT. The message schedule and the rounds that consume it (42_message_schedule.md R150). -/

namespace Sys2Proof.Machine

/-- The first sixteen words are the block's own (R150). -/
theorem schedule_of_lt (M : Block) {t : Nat} (h : t < 16) : schedule M t = M[t] := by
  interval_cases t <;> rfl

/-- The recurrence by its distance from the oldest tap, as the window of R153 holds the words. -/
theorem schedule_add_sixteen (M : Block) (t : Nat) :
    schedule M (t + 16) =
      scheduleWord (schedule M (t + 14)) (schedule M (t + 9)) (schedule M (t + 1)) (schedule M t) := rfl

/-- The recurrence by its distances from the new word, as R150 writes it. -/
theorem schedule_of_ge (M : Block) {t : Nat} (h : 16 ≤ t) :
    schedule M t = scheduleWord (schedule M (t - 2)) (schedule M (t - 7)) (schedule M (t - 15)) (schedule M (t - 16)) := by
  obtain ⟨n, rfl⟩ := Nat.exists_eq_add_of_le' h
  exact schedule_add_sixteen M n

/-- The only schedule word round n consumes is W[n]. -/
theorem rounds_succ (M : Block) (r : Working) (n : Nat) :
    rounds M r (n + 1) = roundStep (BitVec.ofNat 6 n) (rounds M r n) (schedule M n) := rfl

/-- Settles O39: the schedule's two cases, and the round's step on W[t]. -/
theorem scheduleFollowsTheRecurrence : Obligations.ScheduleFollowsTheRecurrence := by
  unfold Obligations.ScheduleFollowsTheRecurrence
  intro M t
  exact ⟨schedule_of_lt M, schedule_of_ge M, fun _ r => rounds_succ M r t⟩

end Sys2Proof.Machine
end

section
/-! SUPPORT. The core's own edges run whatever the host presents (R92): what an edge without reset leaves to the core part
while the core is busy. -/

namespace Sys2Proof.Machine

/-! ## Only RST = 1 decodes to a reset (R82, R89) -/

theorem not_isReset_ite {c : Prop} [Decidable c] {i j : Instr} (hi : ¬ IsReset i) (hj : ¬ IsReset j) :
    ¬ IsReset (if c then i else j) := by
  split
  · exact hi
  · exact hj

theorem not_isReset_decodeReserved (v : Word) : ¬ IsReset (decodeReserved v) := by
  unfold decodeReserved
  iterate 28 refine not_isReset_ite (by simp [IsReset]) ?_
  simp [IsReset]

theorem not_isReset_decodeCtrl (v : Word) : ¬ IsReset (decodeCtrl v) := by
  unfold decodeCtrl
  iterate 8 refine not_isReset_ite (by simp [IsReset]) ?_
  exact not_isReset_decodeReserved v

theorem not_isReset_decodeWrite (addr : Addr) (v : Word) : ¬ IsReset (decodeWrite addr v) := by
  unfold decodeWrite
  refine not_isReset_ite (not_isReset_decodeCtrl v) ?_
  iterate 7 refine not_isReset_ite (by simp [IsReset]) ?_
  simp [IsReset]

theorem not_isReset_decodeRead (addr : Addr) (x : Word) : ¬ IsReset (decodeRead addr x) := by
  unfold decodeRead
  iterate 8 refine not_isReset_ite (by simp [IsReset]) ?_
  simp [IsReset]

theorem isReset_decode_iff (w : Ciw) : IsReset (decode w) ↔ w.rst = true := by
  refine ⟨fun h => ?_, fun h => ⟨_, _, _, decode_of_rst h⟩⟩
  by_contra hrst
  rw [decode, if_neg hrst] at h
  exact not_isReset_ite (not_isReset_decodeWrite _ _) (not_isReset_decodeRead _ _) h

/-! ## The elements no host transaction writes while the core is busy -/

/-- The two states agree on every element but BLK, err and errcode. -/
structure CoreState.AgreeBesideBlockAndError (n m : CoreState) : Prop where
  H : n.H = m.H
  work : n.work = m.work
  Wwin : n.Wwin = m.Wwin
  t : n.t = m.t
  fsm : n.fsm = m.fsm
  last : n.last = m.last
  phase : n.phase = m.phase
  valid : n.valid = m.valid

theorem raise_agree (c : ErrCode) (s n : CoreState) : (raise c s n).AgreeBesideBlockAndError n := by
  constructor <;> simp

theorem writeBLK_agree (k : BitVec 4) (v : Word) (n : CoreState) : (writeBLK k v n).AgreeBesideBlockAndError n := by
  constructor <;> rfl

/-- While the core is busy, a transaction that is no reset leaves all but BLK and the error record to the core part. -/
theorem EdgeEffect.agree_of_busy {i : Instr} {s n : CoreState} (e : EdgeEffect i s n) (hi : ¬ IsReset i)
    (busy : s.fsm ≠ .IDLE) : n.AgreeBesideBlockAndError (coreEdge s) := by
  cases e with
  | reset h => exact absurd h hi
  | nothing => constructor <;> rfl
  | rejected c => exact raise_agree c s _
  | wrote k v _ => exact writeBLK_agree k v _
  | init _ idle => exact absurd idle busy
  | block _ _ idle _ => exact absurd idle busy
  | initblock _ _ idle => exact absurd idle busy

/-- The edge of a busy core under any CIW that is no reset. -/
theorem exec_decode_agree_of_busy {s : State} {w : Ciw} (busy : s.core.fsm ≠ .IDLE) (hrst : w.rst = false) :
    ∃ t, exec (decode w) s = .next t ∧ t.core.AgreeBesideBlockAndError (coreEdge s.core) := by
  obtain ⟨t, hexec, -, effect⟩ := exec_effect (decode w) s
  have hi : ¬ IsReset (decode w) := by simp [isReset_decode_iff, hrst]
  exact ⟨t, hexec, effect.agree_of_busy hi busy⟩

end Sys2Proof.Machine
end

section
/-! Proofs of the family of 43_compression.md: the ROUND and UPDATE edges (R172, R173, R175) and compress as a loop (R170). -/

namespace Sys2Proof.Machine

/-! ## The ROUND edge -/

theorem windowStep_shifts (B : Block) (k : Fin 15) :
    (windowStep B)[k.val]'(by omega) = B[k.val + 1]'(by omega) := by
  fin_cases k <;> rfl

theorem windowStep_enters (B : Block) :
    (windowStep B)[15] = smallSigma1 B[14] + B[9] + smallSigma0 B[1] + B[0] := rfl

theorem roundEdge_last_round {s : CoreState} (h : s.t = 63) : (roundEdge s).fsm = .UPDATE ∧ (roundEdge s).t = 0 :=
  ⟨if_pos h, if_pos h⟩

theorem roundEdge_earlier_round {s : CoreState} (h : s.t ≠ 63) :
    (roundEdge s).fsm = .ROUND ∧ (roundEdge s).t.toNat = s.t.toNat + 1 := by
  have no_wrap : (s.t + 1).toNat = s.t.toNat + 1 := by bv_omega
  rw [roundEdge_fsm, roundEdge_t, if_neg h, if_neg h]
  exact ⟨rfl, no_wrap⟩

/-- Settles O33: the edge agrees with `roundEdge`, whose window and counter the lemmas above describe. -/
theorem roundEdgePerformsOneRound : Obligations.RoundEdgePerformsOneRound := by
  unfold Obligations.RoundEdgePerformsOneRound
  intro s w hround hrst
  have busy : s.core.fsm ≠ .IDLE := by simp [hround]
  obtain ⟨t, hexec, agree⟩ := exec_decode_agree_of_busy busy hrst
  rw [coreEdge_round _ hround] at agree
  refine ⟨t, hexec, agree.work, fun k => ?_, ?_, fun h => ?_, fun h => ?_, agree.H, agree.last, agree.phase, agree.valid⟩
  · simp only [agree.Wwin, roundEdge_Wwin, windowStep_shifts]
  · simp only [agree.Wwin, roundEdge_Wwin, windowStep_enters]
  · rw [agree.fsm, agree.t]; exact roundEdge_last_round h
  · rw [agree.fsm, agree.t]; exact roundEdge_earlier_round h

/-! ## The UPDATE edge -/

/-- Settles O34: the edge agrees with `updateEdge`. -/
theorem updateEdgeAddsTheWorkingRegisters : Obligations.UpdateEdgeAddsTheWorkingRegisters := by
  unfold Obligations.UpdateEdgeAddsTheWorkingRegisters
  intro s w hupdate hrst
  have busy : s.core.fsm ≠ .IDLE := by simp [hupdate]
  obtain ⟨t, hexec, agree⟩ := exec_decode_agree_of_busy busy hrst
  rw [coreEdge_update _ hupdate] at agree
  exact ⟨t, hexec, agree.H, agree.fsm, agree.valid, agree.phase, agree.last, agree.work, agree.Wwin, agree.t⟩

/-! ## compress as a loop (R170) -/

/-- The recursion of `rounds` is the loop over t = 0, 1, ..., n - 1. -/
theorem rounds_eq_foldl (M : Block) (r : Working) (n : Nat) :
    rounds M r n = (List.range n).foldl (fun r t => roundStep (BitVec.ofNat 6 t) r (schedule M t)) r := by
  induction n with
  | zero => rfl
  | succ n ih => rw [rounds_succ, ih, List.range_succ, List.foldl_append, List.foldl_cons, List.foldl_nil]

theorem compress_eq_addBack_foldl (H : Hash) (M : Block) :
    compress H M = addBack H ((List.range 64).foldl (fun r t => roundStep (BitVec.ofNat 6 t) r (schedule M t))
      (Working.ofHash H)) :=
  congrArg (addBack H) (rounds_eq_foldl M (Working.ofHash H) 64)

/-- Settles O40: the 64 rounds are the loop from H, and `addBack` adds word by word. -/
theorem compressIsSixtyFourRoundsAddedBack : Obligations.CompressIsSixtyFourRoundsAddedBack := by
  unfold Obligations.CompressIsSixtyFourRoundsAddedBack
  intro H M
  exact compress_eq_addBack_foldl H M

end Sys2Proof.Machine
end

section
/-! SUPPORT. The decoder against R190: the edge of every transaction is the port step of its CIW (30_encoding.md R83 to R86,
44_host_interface.md R190, R191). -/

namespace Sys2Proof.Machine

/-! ## The rows of the address map (R57, R83): a decoded address is its row's bits and its operand -/

theorem rsvd02_row {addr : Addr} (h : addr.extractLsb' 1 5 = 0b00001) :
    0b00001#5 ++ addr.extractLsb' 0 1 = addr ∧ target addr = .reserved := by
  revert addr; decide

theorem rsvd04_row {addr : Addr} (h : addr.extractLsb' 2 4 = 0b0001) :
    0b0001#4 ++ addr.extractLsb' 0 2 = addr ∧ target addr = .reserved := by
  revert addr; decide

theorem rsvd08_row {addr : Addr} (h : addr.extractLsb' 3 3 = 0b001) :
    0b001#3 ++ addr.extractLsb' 0 3 = addr ∧ target addr = .reserved := by
  revert addr; decide

theorem blk_row {addr : Addr} (h : addr.extractLsb' 4 2 = 0b01) :
    blkAddr (addr.extractLsb' 0 4) = addr ∧ target addr = .blk (addr.extractLsb' 0 4) := by
  revert addr; decide

theorem digest_row {addr : Addr} (h : addr.extractLsb' 3 3 = 0b100) :
    digestAddr (addr.extractLsb' 0 3) = addr ∧ target addr = .digest (addr.extractLsb' 0 3) := by
  revert addr; decide

theorem rsvd28_row {addr : Addr} (h : addr.extractLsb' 3 3 = 0b101) :
    0b101#3 ++ addr.extractLsb' 0 3 = addr ∧ target addr = .reserved := by
  revert addr; decide

theorem rsvd30_row {addr : Addr} (h : addr.extractLsb' 4 2 = 0b11) :
    0b11#2 ++ addr.extractLsb' 0 4 = addr ∧ target addr = .reserved := by
  revert addr; decide

/-- The rows cover all 64 addresses (R83). -/
theorem rows_cover (addr : Addr) :
    addr = 0b000000 ∨ addr = 0b000001 ∨ addr.extractLsb' 1 5 = 0b00001 ∨ addr.extractLsb' 2 4 = 0b0001 ∨
      addr.extractLsb' 3 3 = 0b001 ∨ addr.extractLsb' 4 2 = 0b01 ∨ addr.extractLsb' 3 3 = 0b100 ∨
      addr.extractLsb' 3 3 = 0b101 ∨ addr.extractLsb' 4 2 = 0b11 := by
  revert addr; decide

/-! ## What a read of each target shows (R191) -/

theorem readData_blk {s : CoreState} {addr : Addr} {i : BitVec 4} (h : target addr = .blk i) :
    readData s addr = readBLK s i := by
  rw [readData, h]

theorem readData_digest {s : CoreState} {addr : Addr} {j : BitVec 3} (h : target addr = .digest j) :
    readData s addr = readDIGEST s j := by
  rw [readData, h]

theorem readData_reserved {s : CoreState} {addr : Addr} (h : target addr = .reserved) : readData s addr = 0 := by
  rw [readData, h]

/-! ## What a write to each target does (R190, R204) -/

/-- The targets a host write can change; at the others it is rejected with ERR_ADDR (R204). -/
def Target.acceptsWrites : Target → Bool
  | .ctrl => true
  | .blk _ => true
  | .status => false
  | .digest _ => false
  | .reserved => false

@[simp] theorem portStep_read (s : CoreState) (addr : Addr) (x : Word) :
    portStep s false false addr x = coreEdge s := rfl

theorem portStep_write_blk {s : CoreState} {addr : Addr} {i : BitVec 4} (v : Word) (h : target addr = .blk i) :
    portStep s false true addr v = writeBLK i v (coreEdge s) := by
  simp [portStep, h]

theorem portStep_write_rejected {s : CoreState} {addr : Addr} (v : Word) (h : (target addr).acceptsWrites = false) :
    portStep s false true addr v = raise .ERR_ADDR s (coreEdge s) := by
  cases htarget : target addr with
  | ctrl => simp [htarget, Target.acceptsWrites] at h
  | blk i => simp [htarget, Target.acceptsWrites] at h
  | status => simp [portStep, htarget]
  | digest j => simp [portStep, htarget]
  | reserved => simp [portStep, htarget]

/-! ## The malformed command words (R86) -/

theorem malformed_iff (v : Word) : malformed v = true ↔ v = 0x4 ∨ v = 0x5 ∨ v.extractLsb' 3 29 ≠ 0 := by
  simp [malformed, or_assoc]

/-- The six well-formed command words (R85). -/
theorem commandWord_cases {v : Word} (h : malformed v = false) :
    v = 0x0 ∨ v = 0x1 ∨ v = 0x2 ∨ v = 0x3 ∨ v = 0x6 ∨ v = 0x7 := by
  have hnot : ¬ (v = 0x4 ∨ v = 0x5 ∨ v.extractLsb' 3 29 ≠ 0) := mt (malformed_iff v).mpr (Bool.eq_false_iff.mp h)
  obtain ⟨h4, h5, hreserved⟩ : v ≠ 0x4 ∧ v ≠ 0x5 ∧ v.extractLsb' 3 29 = 0#29 := by simpa using hnot
  have hsmall : v.toNat < 8 := by
    have hhigh := congrArg BitVec.toNat hreserved
    simp only [BitVec.extractLsb'_toNat, Nat.shiftRight_eq_div_pow, BitVec.toNat_ofNat] at hhigh
    omega
  bv_omega

theorem decodeReserved_mem_malformedWrites (v : Word) : decodeReserved v ∈ malformedWrites v := by
  unfold decodeReserved
  iterate 28 refine ite_mem.mpr ⟨fun _ => by simp [malformedWrites], fun _ => ?_⟩
  simp [malformedWrites]

theorem decodeCtrl_mem_malformedWrites {v : Word} (h : malformed v = true) : decodeCtrl v ∈ malformedWrites v := by
  unfold decodeCtrl
  split_ifs with h0 h1 h2 h6 h3 h7 h4 h5
  · subst h0; exact absurd h (by decide)
  · subst h1; exact absurd h (by decide)
  · subst h2; exact absurd h (by decide)
  · subst h6; exact absurd h (by decide)
  · subst h3; exact absurd h (by decide)
  · subst h7; exact absurd h (by decide)
  · simp [malformedWrites]
  · simp [malformedWrites]
  · exact decodeReserved_mem_malformedWrites v

/-- Each of the 31 rows has the one meaning of R203. -/
theorem map_exec_malformedWrites (v : Word) (s : State) :
    (malformedWrites v).map (fun i => exec i s) = List.replicate 31 (writeEdge CTRL (raise .ERR_CTRL) s) := rfl

theorem exec_of_mem_malformedWrites {v : Word} {i : Instr} (h : i ∈ malformedWrites v) (s : State) :
    exec i s = writeEdge CTRL (raise .ERR_CTRL) s := by
  have hmem := List.mem_map_of_mem (f := fun i => exec i s) h
  rw [map_exec_malformedWrites] at hmem
  exact List.eq_of_mem_replicate hmem

/-! ## The edge of a decoded transaction -/

theorem exec_decodeCtrl (v : Word) (s : State) :
    exec (decodeCtrl v) s = writeEdge CTRL (fun s n => command s n v) s := by
  cases h : malformed v with
  | true =>
    have hcommand : (fun s n => command s n v) = raise .ERR_CTRL := by funext s n; simp [command, h]
    rw [exec_of_mem_malformedWrites (decodeCtrl_mem_malformedWrites h), hcommand]
  | false => rcases commandWord_cases h with rfl | rfl | rfl | rfl | rfl | rfl <;> rfl

/-- A rejected write's edge, at an address of one of the rows above. -/
theorem writeEdge_rejected {a addr : Addr} {r : Target} (row : a = addr ∧ target addr = r) (hr : r.acceptsWrites = false)
    (v : Word) (s : State) :
    writeEdge a (raise .ERR_ADDR) s =
      .next { s with core := portStep s.core false true addr v, rdata := readData s.core addr } := by
  obtain ⟨rfl, rfl⟩ := row
  rw [portStep_write_rejected v hr]
  rfl

theorem exec_wrblk_of_row {addr : Addr} {i : BitVec 4} (row : blkAddr i = addr ∧ target addr = .blk i) (v : Word)
    (s : State) :
    exec (.wrblk i v) s =
      .next { s with core := portStep s.core false true addr v, rdata := readData s.core addr } := by
  obtain ⟨rfl, htarget⟩ := row
  rw [portStep_write_blk v htarget]
  rfl

theorem exec_decodeWrite (addr : Addr) (v : Word) (s : State) :
    exec (decodeWrite addr v) s =
      .next { s with core := portStep s.core false true addr v, rdata := readData s.core addr } := by
  unfold decodeWrite
  split_ifs with hctrl hstatus h02 h04 h08 hblk hdigest h28
  · subst hctrl; exact exec_decodeCtrl v s
  · subst hstatus; rfl
  · exact writeEdge_rejected (rsvd02_row h02) rfl v s
  · exact writeEdge_rejected (rsvd04_row h04) rfl v s
  · exact writeEdge_rejected (rsvd08_row h08) rfl v s
  · exact exec_wrblk_of_row (blk_row hblk) v s
  · exact writeEdge_rejected (digest_row hdigest) rfl v s
  · exact writeEdge_rejected (rsvd28_row h28) rfl v s
  · have h30 : addr.extractLsb' 4 2 = 0b11 := by have := rows_cover addr; tauto
    exact writeEdge_rejected (rsvd30_row h30) rfl v s

theorem readEdge_of_readData {addr : Addr} {u : Word} {s : State} (h : readData s.core addr = u) (x : Word) :
    readEdge u s = .next { s with core := portStep s.core false false addr x, rdata := readData s.core addr } := by
  rw [h]
  rfl

theorem exec_decodeRead (addr : Addr) (x : Word) (s : State) :
    exec (decodeRead addr x) s =
      .next { s with core := portStep s.core false false addr x, rdata := readData s.core addr } := by
  unfold decodeRead
  split_ifs with hctrl hstatus h02 h04 h08 hblk hdigest h28
  · subst hctrl; rfl
  · subst hstatus; rfl
  · exact readEdge_of_readData (readData_reserved (rsvd02_row h02).2) x
  · exact readEdge_of_readData (readData_reserved (rsvd04_row h04).2) x
  · exact readEdge_of_readData (readData_reserved (rsvd08_row h08).2) x
  · exact readEdge_of_readData (readData_blk (blk_row hblk).2) x
  · exact readEdge_of_readData (readData_digest (digest_row hdigest).2) x
  · exact readEdge_of_readData (readData_reserved (rsvd28_row h28).2) x
  · have h30 : addr.extractLsb' 4 2 = 0b11 := by have := rows_cover addr; tauto
    exact readEdge_of_readData (readData_reserved (rsvd30_row h30).2) x

/-- Every transaction is R190's step over the ports of its CIW, and rdata shows what R191 says. -/
theorem exec_decode (w : Ciw) (s : State) :
    exec (decode w) s = .next { s with core := ciwStep s.core w, rdata := readData s.core w.addr } := by
  unfold decode ciwStep
  cases hrst : w.rst with
  | true => rfl
  | false =>
    cases hwe : w.we with
    | true => exact exec_decodeWrite w.addr w.data s
    | false => exact exec_decodeRead w.addr w.data s

/-- The same by the four port values. -/
theorem exec_decode_ciw (rst we : Bool) (addr : Addr) (data : Word) (s : State) :
    exec (decode (ciw rst we addr data)) s =
      .next { s with core := portStep s.core rst we addr data, rdata := readData s.core addr } := by
  simp [exec_decode, ciwStep]

end Sys2Proof.Machine
end

section
/-! Proofs of the family of 44_host_interface.md: the port step and rdata (R190, R191). -/

namespace Sys2Proof.Machine

/-- Settles O7: a step carries out the decoded CIW, and that is the port step. -/
theorem stepIsThePortStep : Obligations.StepIsThePortStep := by
  unfold Obligations.StepIsThePortStep
  intro s
  exact ⟨_, exec_decode s.nextInput s.takeInput, rfl, rfl⟩

/-- Settles O8: the edge of the CIW with the given port values; without we and rst it is the core part alone. -/
theorem rdataShowsTheAddressedRegister : Obligations.RdataShowsTheAddressedRegister := by
  unfold Obligations.RdataShowsTheAddressedRegister
  intro s rst we addr data
  refine ⟨_, exec_decode_ciw rst we addr data s, rfl, fun hrst hwe => ?_⟩
  subst hrst hwe
  exact portStep_read s.core addr data

end Sys2Proof.Machine
end

section
/-! Proofs of the family of 44_host_interface.md: the commands (R197 to R203) and the 65 edges after an accepted block command
(R171). -/

namespace Sys2Proof.Machine

/-! ## The edge of a write to CTRL -/

/-- In the cycle of a command rdata shows CTRL, which reads 0 (R195). -/
theorem writeEdge_CTRL (host : CoreState → CoreState → CoreState) (s : State) :
    writeEdge CTRL host s = .next { s with core := host s.core (coreEdge s.core), rdata := 0 } := rfl

/-- `raise` is the error record of R230 and R233, by the code's value. -/
theorem raise_eq_errorRecorded (c : ErrCode) (s n : CoreState) : raise c s n = errorRecorded c.bits s n := rfl

/-- Settles O13: `nop` is the write edge whose host part writes nothing. -/
theorem nopDoesNothing : Obligations.NopDoesNothing := by
  unfold Obligations.NopDoesNothing
  exact ⟨by decide, fun s => writeEdge_CTRL (fun _ n => n) s⟩

/-- READY alone is 1 in an IDLE state with valid, phase and the error record cleared (R36, R192). -/
theorem statusWord_of_cleared {s : CoreState} (hfsm : s.fsm = .IDLE) (hvalid : s.valid = false)
    (hphase : s.phase = .ACCEPTING) (herr : s.err = false) (hcode : s.errcode = 0) : statusWord s = 0x00000001 := by
  rw [statusWord, CoreState.ready, CoreState.final, hfsm, hvalid, hphase, herr, hcode]
  decide

/-- Settles O14: the two branches of INIT. -/
theorem initLoadsTheInitialHashOrIsBusy : Obligations.InitLoadsTheInitialHashOrIsBusy := by
  unfold Obligations.InitLoadsTheInitialHashOrIsBusy
  refine ⟨by decide, fun s => ?_⟩
  have hexec : exec .init s = .next { s with core := initCommand s.core (coreEdge s.core), rdata := 0 } :=
    writeEdge_CTRL initCommand s
  refine ⟨fun idle => ?accepted, fun busy => ?busy⟩
  case accepted =>
    rw [initCommand_idle _ _ idle, coreEdge_idle _ idle] at hexec
    refine ⟨hexec, fun t ht => ?_⟩
    cases hexec.symm.trans ht
    exact statusWord_of_cleared idle rfl rfl rfl rfl
  case busy => rw [hexec, initCommand_busy _ _ busy, raise_eq_errorRecorded, ErrCode.bits]

/-! ## The edges of a block in progress (R171, R173, R175) -/

/-- A CIW that is no reset leaves a busy core to its own edge, but for BLK and the error record. -/
theorem ciwStep_agree_of_busy {s : CoreState} {w : Ciw} (busy : s.fsm ≠ .IDLE) (hrst : w.rst = false) :
    (ciwStep s w).AgreeBesideBlockAndError (coreEdge s) := by
  obtain ⟨t, hexec, agree⟩ := exec_decode_agree_of_busy (s := ⟨s, [], 0⟩) busy hrst
  cases (exec_decode w ⟨s, [], 0⟩).symm.trans hexec
  exact agree

theorem doneWith_ciwStep_of_update {s : CoreState} {w : Ciw} (hfsm : s.fsm = .UPDATE) (hphase : s.phase = .ACCEPTING)
    (hrst : w.rst = false) : doneWith s.last (ciwStep s w) := by
  have agree := ciwStep_agree_of_busy (s := s) (by simp [hfsm]) hrst
  rw [coreEdge_update s hfsm] at agree
  refine ⟨?ready, agree.valid, ?final⟩
  case ready => simp [CoreState.ready, agree.fsm]
  case final => cases hlast : s.last <;> simp [CoreState.final, agree.phase, hlast, hphase]

/-- A block in round t is done after 65 - t further edges, whatever the host presents but a reset. -/
theorem doneWith_ciwRun_of_round (gap : List Ciw) {s : CoreState} (hfsm : s.fsm = .ROUND) (hphase : s.phase = .ACCEPTING)
    (hlength : s.t.toNat + gap.length = 65) (hrst : NoReset gap) : doneWith s.last (ciwRun s gap) := by
  induction gap generalizing s with
  | nil =>
    have := s.t.isLt
    rw [List.length_nil] at hlength
    omega
  | cons w gap ih =>
    obtain ⟨hw, hgap⟩ := List.forall_mem_cons.mp hrst
    have agree := ciwStep_agree_of_busy (s := s) (by simp [hfsm]) hw
    rw [coreEdge_round s hfsm] at agree
    have hphase' : (ciwStep s w).phase = .ACCEPTING := agree.phase.trans hphase
    change doneWith s.last (ciwRun (ciwStep s w) gap)
    rw [← roundEdge_last s, ← agree.last]
    rw [List.length_cons] at hlength
    by_cases ht : s.t = 63
    · obtain ⟨hupdate, -⟩ := roundEdge_last_round ht
      have hrounds : s.t.toNat = 63 := congrArg BitVec.toNat ht
      obtain ⟨w', rfl⟩ : ∃ w', gap = [w'] := List.length_eq_one_iff.mp (by omega)
      exact doneWith_ciwStep_of_update (agree.fsm.trans hupdate) hphase' (hgap w' (by simp))
    · obtain ⟨hround, hcounter⟩ := roundEdge_earlier_round ht
      rw [← agree.t] at hcounter
      exact ih (agree.fsm.trans hround) hphase' (by omega) hgap

/-! ## The block commands, with their LAST bit -/

/-- Settles O15: the three branches of BLOCK; an accepted one is in round 0 of its block. -/
theorem blockCommandLoadsTheBlockOrIsRejected : Obligations.BlockCommandLoadsTheBlockOrIsRejected := by
  unfold Obligations.BlockCommandLoadsTheBlockOrIsRejected
  refine ⟨by decide, by decide, fun s i last hi => ?_⟩
  have hexec : exec i s = .next { s with core := blockCommand last s.core (coreEdge s.core), rdata := 0 } := by
    rcases hi with ⟨rfl, rfl⟩ | ⟨rfl, rfl⟩ <;> exact writeEdge_CTRL _ s
  refine ⟨fun idle accepting => ?accepted, fun idle finalized => ?finalized, fun busy => ?busy⟩
  case accepted =>
    rw [blockCommand_accepted _ _ _ idle (by simp [accepting]), coreEdge_idle _ idle] at hexec
    refine ⟨hexec, fun t gap ht hlength hrst => ?_⟩
    cases hexec.symm.trans ht
    exact doneWith_ciwRun_of_round gap rfl accepting (by simpa using hlength) hrst
  case finalized =>
    rw [hexec, blockCommand_finalized _ _ _ idle finalized, coreEdge_idle _ idle, raise_eq_errorRecorded, ErrCode.bits]
  case busy => rw [hexec, blockCommand_busy _ _ _ busy, raise_eq_errorRecorded, ErrCode.bits]

/-- Settles O16: the two branches of INIT_BLOCK; an accepted one is in round 0 of its block. -/
theorem initblockCommandStartsAHashOrIsBusy : Obligations.InitblockCommandStartsAHashOrIsBusy := by
  unfold Obligations.InitblockCommandStartsAHashOrIsBusy
  refine ⟨by decide, by decide, fun s i last hi => ?_⟩
  have hexec : exec i s = .next { s with core := initblockCommand last s.core (coreEdge s.core), rdata := 0 } := by
    rcases hi with ⟨rfl, rfl⟩ | ⟨rfl, rfl⟩ <;> exact writeEdge_CTRL _ s
  refine ⟨fun idle => ?accepted, fun busy => ?busy⟩
  case accepted =>
    rw [initblockCommand_idle _ _ _ idle, coreEdge_idle _ idle] at hexec
    refine ⟨hexec, fun t gap ht hlength hrst => ?_⟩
    cases hexec.symm.trans ht
    exact doneWith_ciwRun_of_round gap rfl rfl (by simpa using hlength) hrst
  case busy => rw [hexec, initblockCommand_busy _ _ _ busy, raise_eq_errorRecorded, ErrCode.bits]

/-- Settles O18: the word decodes into the 31 rows, which share one meaning. -/
theorem everyMalformedWordIsRejected : Obligations.EveryMalformedWordIsRejected := by
  unfold Obligations.EveryMalformedWordIsRejected
  intro s v hv
  have hdecode : decode (ciw false true 0x00 v) = decodeCtrl v := by simp [decode, decodeWrite]
  have hmem : decodeCtrl v ∈ malformedWrites v := decodeCtrl_mem_malformedWrites ((malformed_iff v).mpr hv)
  rw [hdecode, exec_of_mem_malformedWrites hmem, writeEdge_CTRL, raise_eq_errorRecorded, ErrCode.bits]
  exact ⟨hmem, rfl⟩

end Sys2Proof.Machine
end

section
/-! Proofs of the family of 44_host_interface.md: the other writes and the reads (R192 to R196, R204, R206). -/

namespace Sys2Proof.Machine

/-! ## The addresses of R204 and R195 -/

theorem acceptsWrites_eq_false_of_readOnly_or_reserved {addr : Addr}
    (h : (0x01 ≤ addr.toNat ∧ addr.toNat ≤ 0x0F) ∨ 0x20 ≤ addr.toNat) :
    (target addr).acceptsWrites = false := by
  revert addr; decide

theorem target_ctrl_or_reserved {addr : Addr}
    (h : addr = 0x00 ∨ (0x02 ≤ addr.toNat ∧ addr.toNat ≤ 0x0F) ∨ 0x28 ≤ addr.toNat) :
    target addr = .ctrl ∨ target addr = .reserved := by
  revert addr; decide

/-- Settles O19: every row raises ERR_ADDR, and every address is one the port step rejects. -/
theorem readOnlyAndReservedWritesRecordErrAddr : Obligations.ReadOnlyAndReservedWritesRecordErrAddr := by
  unfold Obligations.ReadOnlyAndReservedWritesRecordErrAddr
  refine ⟨fun s i v j a3 b3 a1 a2 a4 hi => ?rows, fun s addr v haddr => ?addresses⟩
  case rows =>
    simp only [List.mem_cons, List.not_mem_nil, or_false] at hi
    rcases hi with rfl | rfl | rfl | rfl | rfl | rfl | rfl <;> exact ⟨_, rfl, rfl, rfl⟩
  case addresses =>
    have rejects := acceptsWrites_eq_false_of_readOnly_or_reserved haddr
    exact ⟨_, exec_decode_ciw false true addr v s, portStep_write_rejected v rejects, rfl⟩

/-! ## The operand of an address (R87) -/

theorem blkAddr_eq_add (i : BitVec 4) : 0x10 + i.setWidth 6 = blkAddr i := by
  revert i; decide

theorem digestAddr_eq_add (j : BitVec 3) : 0x20 + j.setWidth 6 = digestAddr j := by
  revert j; decide

/-- An address of BLK is in none of the rows the decoder tries before, and its low bits are the index. -/
theorem blkAddr_row (i : BitVec 4) :
    blkAddr i ≠ 0 ∧ blkAddr i ≠ 1 ∧ (blkAddr i).extractLsb' 1 5 ≠ 0b00001 ∧ (blkAddr i).extractLsb' 2 4 ≠ 0b0001 ∧
      (blkAddr i).extractLsb' 3 3 ≠ 0b001 ∧ (blkAddr i).extractLsb' 4 2 = 0b01 ∧ (blkAddr i).extractLsb' 0 4 = i := by
  revert i; decide

/-- The same for an address of DIGEST. -/
theorem digestAddr_row (j : BitVec 3) :
    digestAddr j ≠ 0 ∧ digestAddr j ≠ 1 ∧ (digestAddr j).extractLsb' 1 5 ≠ 0b00001 ∧
      (digestAddr j).extractLsb' 2 4 ≠ 0b0001 ∧ (digestAddr j).extractLsb' 4 2 ≠ 0b01 ∧
      (digestAddr j).extractLsb' 3 3 = 0b100 ∧ (digestAddr j).extractLsb' 0 3 = j := by
  revert j; decide

theorem decode_write_blkAddr (i : BitVec 4) (v : Word) : decode (ciw false true (blkAddr i) v) = .wrblk i v := by
  obtain ⟨hctrl, hstatus, h02, h04, h08, hblk, hindex⟩ := blkAddr_row i
  simp only [decode, ciw_rst, ciw_we, ciw_addr, ciw_data, decodeWrite, hctrl, hstatus, h02, h04, h08, hblk, hindex]
  rfl

theorem decode_read_blkAddr (i : BitVec 4) (x : Word) : decode (ciw false false (blkAddr i) x) = .rdblk i x := by
  obtain ⟨hctrl, hstatus, h02, h04, h08, hblk, hindex⟩ := blkAddr_row i
  simp only [decode, ciw_rst, ciw_we, ciw_addr, ciw_data, decodeRead, hctrl, hstatus, h02, h04, h08, hblk, hindex]
  rfl

theorem decode_read_digestAddr (j : BitVec 3) (x : Word) : decode (ciw false false (digestAddr j) x) = .rddig j x := by
  obtain ⟨hctrl, hstatus, h02, h04, hblk, hdigest, hindex⟩ := digestAddr_row j
  simp only [decode, ciw_rst, ciw_we, ciw_addr, ciw_data, decodeRead, hctrl, hstatus, h02, h04, hblk, hdigest, hindex]
  rfl

/-- Settles O20: the core part leaves BLK alone, and the host part sets one word of it. -/
theorem blockBufferWriteStoresOneWord : Obligations.BlockBufferWriteStoresOneWord := by
  unfold Obligations.BlockBufferWriteStoresOneWord
  intro s i v
  refine ⟨by rw [blkAddr_eq_add, decode_write_blkAddr], _, rfl, rfl, rfl, readBLK_writeBLK_same i v _, fun k hk => ?_⟩
  exact (readBLK_writeBLK_other i k v _ hk).trans (by simp only [readBLK, coreEdge_BLK])

/-! ## The fields of STATUS (R36) -/

/-- Every bit of STATUS (R192). -/
theorem statusWord_getLsbD (s : CoreState) (i : Nat) :
    (statusWord s).getLsbD i =
      match i with
      | 0 => s.ready
      | 1 => s.valid
      | 2 => s.final
      | 3 => s.err
      | k + 4 => s.errcode.getLsbD k := by
  change BitVec.getLsbD (w := 24 + 4 + 1 + 1 + 1 + 1) (0#24 ++ s.errcode ++ BitVec.ofBool s.err ++ BitVec.ofBool s.final ++
    BitVec.ofBool s.valid ++ BitVec.ofBool s.ready) i = _
  simp only [BitVec.getLsbD_append, BitVec.getLsbD_ofBool]
  rcases i with _ | _ | _ | _ | k
  · simp
  · simp
  · simp
  · simp
  · simpa using BitVec.lt_of_getLsbD

theorem statusWord_errcode (s : CoreState) : (statusWord s).extractLsb' 4 4 = s.errcode := by
  apply BitVec.eq_of_getLsbD_eq
  intro k hk
  rw [BitVec.getLsbD_extractLsb', Nat.add_comm, statusWord_getLsbD]
  simp [hk]

theorem statusWord_reserved (s : CoreState) : (statusWord s).extractLsb' 8 24 = 0 := by
  apply BitVec.eq_of_getLsbD_eq
  intro k hk
  rw [BitVec.getLsbD_extractLsb', (by omega : 8 + k = (k + 4) + 4), statusWord_getLsbD]
  simp

/-- Settles O21: the fields of the word that a read of STATUS shows. -/
theorem statusReadReturnsTheStatusFields : Obligations.StatusReadReturnsTheStatusFields := by
  unfold Obligations.StatusReadReturnsTheStatusFields
  intro s x
  refine ⟨by simp [decode, decodeRead], _, rfl, rfl, rfl, ?_⟩
  exact ⟨statusWord_getLsbD _ 0, rfl, statusWord_getLsbD _ 1, statusWord_getLsbD _ 2, statusWord_getLsbD _ 3,
    statusWord_errcode _, statusWord_reserved _⟩

/-- Settles O22: the address is the row's bits and the index, and the read edge shows that register. -/
theorem blockAndDigestReadsReturnTheRegister : Obligations.BlockAndDigestReadsReturnTheRegister := by
  unfold Obligations.BlockAndDigestReadsReturnTheRegister
  intro s i j x
  rw [blkAddr_eq_add, digestAddr_eq_add]
  exact ⟨decode_read_blkAddr i x, decode_read_digestAddr j x, rfl, rfl⟩

theorem readData_eq_zero {s : CoreState} {addr : Addr} (h : target addr = .ctrl ∨ target addr = .reserved) :
    readData s addr = 0 := by
  rcases h with h | h <;> rw [readData, h]

/-- Settles O23: every row shows 0, and so does every address that the map calls CTRL or reserved. -/
theorem ctrlAndReservedReadsReturnZero : Obligations.CtrlAndReservedReadsReturnZero := by
  unfold Obligations.CtrlAndReservedReadsReturnZero
  refine ⟨fun s i x a3 b3 a1 a2 a4 hi => ?rows, fun s addr x haddr => ?addresses⟩
  case rows =>
    simp only [List.mem_cons, List.not_mem_nil, or_false] at hi
    rcases hi with rfl | rfl | rfl | rfl | rfl | rfl <;> rfl
  case addresses =>
    rw [exec_decode_ciw, portStep_read, readData_eq_zero (target_ctrl_or_reserved haddr)]

end Sys2Proof.Machine
end

section
/-! SUPPORT. Rejected writes (60_exceptions.md R232): `rejection` by the target of the CIW, and what the edge does when it
names an error and when it names none. -/

namespace Sys2Proof.Machine

/-! ## Which transactions start a hash -/

theorem target_eq_ctrl_iff (addr : Addr) : target addr = .ctrl ↔ addr = 0 := by
  revert addr; decide

theorem not_startsHash_decodeRead (addr : Addr) (x : Word) : ¬ StartsHash (decodeRead addr x) := by
  unfold decodeRead
  split_ifs <;> simp [StartsHash]

theorem not_startsHash_decodeWrite {addr : Addr} (v : Word) (h : target addr ≠ .ctrl) :
    ¬ StartsHash (decodeWrite addr v) := by
  rw [decodeWrite, if_neg (mt (target_eq_ctrl_iff addr).mpr h)]
  split_ifs <;> simp [StartsHash]

theorem not_startsHash_decode_of_read {w : Ciw} (hrst : w.rst = false) (hwe : w.we = false) :
    ¬ StartsHash (decode w) := by
  simpa [decode, hrst, hwe] using not_startsHash_decodeRead w.addr w.data

theorem decode_of_write {w : Ciw} (hrst : w.rst = false) (hwe : w.we = true) :
    decode w = decodeWrite w.addr w.data := by
  simp [decode, hrst, hwe]

theorem decode_of_write_ctrl {w : Ciw} (hrst : w.rst = false) (hwe : w.we = true) (htarget : target w.addr = .ctrl) :
    decode w = decodeCtrl w.data := by
  rw [decode_of_write hrst hwe, decodeWrite, if_pos ((target_eq_ctrl_iff _).mp htarget)]

/-! ## The edge of a CIW, by the kind of its transaction -/

theorem Target.ctrl_or_blk_or_rejects (r : Target) : r = .ctrl ∨ (∃ i, r = .blk i) ∨ r.acceptsWrites = false := by
  cases r with
  | ctrl => exact .inl rfl
  | blk i => exact .inr (.inl ⟨i, rfl⟩)
  | _ => exact .inr (.inr rfl)

theorem ciwStep_read {w : Ciw} (s : CoreState) (hrst : w.rst = false) (hwe : w.we = false) :
    ciwStep s w = coreEdge s := by
  rw [ciwStep, hrst, hwe, portStep_read]

theorem ciwStep_write {w : Ciw} (s : CoreState) (hrst : w.rst = false) (hwe : w.we = true) :
    ciwStep s w = portStep s false true w.addr w.data := by
  rw [ciwStep, hrst, hwe]

theorem ciwStep_write_ctrl {w : Ciw} (s : CoreState) (hrst : w.rst = false) (hwe : w.we = true)
    (htarget : target w.addr = .ctrl) : ciwStep s w = command s (coreEdge s) w.data := by
  simp [ciwStep, portStep, hrst, hwe, htarget]

@[simp] theorem ciwStep_idleCiw (s : CoreState) : ciwStep s idleCiw = coreEdge s :=
  ciwStep_read s (by decide) (by decide)

/-! ## `rejection`, by the kind of the transaction (R232) -/

/-- Which error the command word `v` raises in state `s`, if any: the part of `rejection` for a write to CTRL. -/
def commandRejection (s : CoreState) (v : Word) : Option ErrCode :=
  if malformed v then some .ERR_CTRL
  else if v = 0 then none
  else if s.fsm ≠ .IDLE then some .ERR_BUSY
  else if (v = 2 ∨ v = 6) ∧ s.phase = .FINALIZED then some .ERR_FINAL
  else none

theorem rejection_of_not_write (s : CoreState) {w : Ciw} (h : ¬ (w.rst = false ∧ w.we = true)) :
    rejection s w = none :=
  if_pos (by simpa [or_iff_not_imp_left] using h)

/-- Only a write, and no reset, is rejected. -/
theorem ports_of_rejection {s : CoreState} {w : Ciw} {c : ErrCode} (h : rejection s w = some c) :
    w.rst = false ∧ w.we = true := by
  by_contra hports
  rw [rejection_of_not_write s hports] at h
  cases h

theorem rejection_write_ctrl {w : Ciw} (s : CoreState) (hrst : w.rst = false) (hwe : w.we = true)
    (htarget : target w.addr = .ctrl) : rejection s w = commandRejection s w.data := by
  simp [rejection, commandRejection, hrst, hwe, htarget]

theorem rejection_write_blk {w : Ciw} {i : BitVec 4} (s : CoreState) (hrst : w.rst = false) (hwe : w.we = true)
    (htarget : target w.addr = .blk i) : rejection s w = none := by
  simp [rejection, hrst, hwe, htarget]

theorem rejection_write_rejected {w : Ciw} (s : CoreState) (hrst : w.rst = false) (hwe : w.we = true)
    (hrejects : (target w.addr).acceptsWrites = false) : rejection s w = some .ERR_ADDR := by
  cases htarget : target w.addr with
  | ctrl => simp [htarget, Target.acceptsWrites] at hrejects
  | blk i => simp [htarget, Target.acceptsWrites] at hrejects
  | _ => simp [rejection, hrst, hwe, htarget]

/-! ## A rejected write (R230) -/

theorem command_of_rejection {s : CoreState} {v : Word} {c : ErrCode} (h : commandRejection s v = some c)
    (n : CoreState) : command s n v = raise c s n := by
  unfold commandRejection at h
  split_ifs at h with hmalformed hnop hbusy hfinal
  · cases h
    rw [command, if_pos hmalformed]
  · cases h
    rcases commandWord_cases (Bool.eq_false_iff.mpr hmalformed) with rfl | rfl | rfl | rfl | rfl | rfl
    · exact absurd rfl hnop
    · exact initCommand_busy s n hbusy
    · exact blockCommand_busy false s n hbusy
    · exact initblockCommand_busy false s n hbusy
    · exact blockCommand_busy true s n hbusy
    · exact initblockCommand_busy true s n hbusy
  · cases h
    obtain ⟨hblock, finalized⟩ := hfinal
    rcases hblock with rfl | rfl
    · exact blockCommand_finalized false s n (not_not.mp hbusy) finalized
    · exact blockCommand_finalized true s n (not_not.mp hbusy) finalized

/-- The host part of a rejected write is `raise` and nothing else. -/
theorem ciwStep_of_rejection {s : CoreState} {w : Ciw} {c : ErrCode} (h : rejection s w = some c) :
    ciwStep s w = raise c s (coreEdge s) := by
  obtain ⟨hrst, hwe⟩ := ports_of_rejection h
  rcases (target w.addr).ctrl_or_blk_or_rejects with htarget | ⟨i, htarget⟩ | hrejects
  · rw [rejection_write_ctrl s hrst hwe htarget] at h
    rw [ciwStep_write_ctrl s hrst hwe htarget, command_of_rejection h]
  · rw [rejection_write_blk s hrst hwe htarget] at h
    cases h
  · cases (rejection_write_rejected s hrst hwe hrejects).symm.trans h
    rw [ciwStep_write s hrst hwe, portStep_write_rejected _ hrejects]

/-! ## A transaction that raises no error -/

/-- The error record of `n` is that of `s`. -/
def SameErrorRecord (n s : CoreState) : Prop := n.err = s.err ∧ n.errcode = s.errcode

theorem coreEdge_sameErrorRecord (s : CoreState) : SameErrorRecord (coreEdge s) s := ⟨coreEdge_err s, coreEdge_errcode s⟩

theorem writeBLK_sameErrorRecord (i : BitVec 4) (v : Word) (s : CoreState) :
    SameErrorRecord (writeBLK i v (coreEdge s)) s := coreEdge_sameErrorRecord s

theorem blockCommand_sameErrorRecord (last : Bool) {s : CoreState} (idle : s.fsm = .IDLE) (hp : s.phase ≠ .FINALIZED) :
    SameErrorRecord (blockCommand last s (coreEdge s)) s := by
  rw [blockCommand_accepted last _ _ idle hp]
  exact coreEdge_sameErrorRecord s

theorem commandRejection_eq_none {s : CoreState} {v : Word} (h : commandRejection s v = none) :
    malformed v = false ∧ (v ≠ 0 → s.fsm = .IDLE ∧ (v = 2 ∨ v = 6 → s.phase ≠ .FINALIZED)) := by
  unfold commandRejection at h
  split_ifs at h with hmalformed hnop hbusy hfinal
  · exact ⟨Bool.eq_false_iff.mpr hmalformed, fun h0 => absurd hnop h0⟩
  · exact ⟨Bool.eq_false_iff.mpr hmalformed, fun _ => ⟨not_not.mp hbusy, not_and.mp hfinal⟩⟩

/-- A command that raises no error starts a hash on an idle core, or leaves the record as it is. -/
theorem command_of_no_rejection {s : CoreState} {v : Word} (h : commandRejection s v = none) :
    (StartsHash (decodeCtrl v) ∧ s.fsm = .IDLE) ∨
      (¬ StartsHash (decodeCtrl v) ∧ SameErrorRecord (command s (coreEdge s) v) s) := by
  obtain ⟨hmalformed, haccepted⟩ := commandRejection_eq_none h
  rcases commandWord_cases hmalformed with rfl | rfl | rfl | rfl | rfl | rfl
  case inl => exact .inr ⟨by simp [decodeCtrl, StartsHash], coreEdge_sameErrorRecord s⟩
  all_goals obtain ⟨idle, accepting⟩ := haccepted (by decide)
  · exact .inl ⟨by simp [decodeCtrl, StartsHash], idle⟩
  · exact .inr ⟨by simp [decodeCtrl, StartsHash], blockCommand_sameErrorRecord false idle (accepting (.inl rfl))⟩
  · exact .inl ⟨by simp [decodeCtrl, StartsHash], idle⟩
  · exact .inr ⟨by simp [decodeCtrl, StartsHash], blockCommand_sameErrorRecord true idle (accepting (.inr rfl))⟩
  · exact .inl ⟨by simp [decodeCtrl, StartsHash], idle⟩

/-- The same for every CIW that is no reset. -/
theorem ciwStep_of_no_rejection {s : CoreState} {w : Ciw} (hrst : w.rst = false) (h : rejection s w = none) :
    (StartsHash (decode w) ∧ s.fsm = .IDLE) ∨
      (¬ StartsHash (decode w) ∧ SameErrorRecord (ciwStep s w) s) := by
  cases hwe : w.we with
  | false =>
    rw [ciwStep_read s hrst hwe]
    exact .inr ⟨not_startsHash_decode_of_read hrst hwe, coreEdge_sameErrorRecord s⟩
  | true =>
    rcases (target w.addr).ctrl_or_blk_or_rejects with htarget | ⟨i, htarget⟩ | hrejects
    · rw [rejection_write_ctrl s hrst hwe htarget] at h
      rw [ciwStep_write_ctrl s hrst hwe htarget, decode_of_write_ctrl hrst hwe htarget]
      exact command_of_no_rejection h
    · rw [ciwStep_write s hrst hwe, portStep_write_blk _ htarget, decode_of_write hrst hwe]
      exact .inr ⟨not_startsHash_decodeWrite _ (by simp [htarget]), writeBLK_sameErrorRecord i _ s⟩
    · rw [rejection_write_rejected s hrst hwe hrejects] at h
      cases h

end Sys2Proof.Machine
end

section
/-! Proofs of the family of 60_exceptions.md: the error record (R230, R233, R234). -/

namespace Sys2Proof.Machine

/-! ## What an edge can do to the error record -/

theorem ErrCode.bits_ne_zero (c : ErrCode) : c.bits ≠ 0 := by
  cases c <;> decide

/-- After a rejected write err is set, and errcode is the code of the first one (R233). -/
theorem raise_coreEdge_errorRecord (c : ErrCode) (s : CoreState) :
    (raise c s (coreEdge s)).err = true ∧
      (raise c s (coreEdge s)).errcode = if s.err then s.errcode else c.bits := by
  simp

/-- The transaction clears the error record (R234): a reset, or an accepted init, initblock or initblock.last. -/
def ClearsErrorRecord (i : Instr) (s : CoreState) : Prop := IsReset i ∨ (s.fsm = .IDLE ∧ StartsHash i)

/-- Every edge clears the record as R234 allows, leaves it as it is, or sets it. -/
theorem EdgeEffect.clears_or_keeps_or_sets {i : Instr} {s n : CoreState} (e : EdgeEffect i s n) :
    ClearsErrorRecord i s ∨ SameErrorRecord n s ∨ (n.err = true ∧ n.errcode ≠ 0) := by
  cases e with
  | reset h => exact .inl (.inl h)
  | nothing => exact .inr (.inl (coreEdge_sameErrorRecord s))
  | rejected c =>
    obtain ⟨hset, hcode⟩ := raise_coreEdge_errorRecord c s
    cases herr : s.err with
    | true => exact .inr (.inl ⟨hset.trans herr.symm, by rw [hcode, if_pos herr]⟩)
    | false =>
      rw [herr] at hcode
      exact .inr (.inr ⟨hset, hcode ▸ c.bits_ne_zero⟩)
  | wrote k v _ => exact .inr (.inl (writeBLK_sameErrorRecord k v s))
  | init h idle => exact .inl (.inr ⟨idle, .inl h⟩)
  | block last _ _ _ => exact .inr (.inl ⟨rfl, rfl⟩)
  | initblock last h idle => cases last <;> exact .inl (.inr ⟨idle, by simp [StartsHash, h]⟩)

theorem initCommand_clears {s : CoreState} (idle : s.fsm = .IDLE) (n : CoreState) :
    (initCommand s n).err = false ∧ (initCommand s n).errcode = 0 := by
  rw [initCommand_idle s n idle]
  exact ⟨rfl, rfl⟩

theorem initblockCommand_clears (last : Bool) {s : CoreState} (idle : s.fsm = .IDLE) (n : CoreState) :
    (initblockCommand last s n).err = false ∧ (initblockCommand last s n).errcode = 0 := by
  rw [initblockCommand_idle last s n idle]
  exact ⟨rfl, rfl⟩

/-- The edge of a transaction that clears the record. -/
theorem exec_clears_errorRecord {i : Instr} {s t : State} (h : exec i s = .next t) (hi : ClearsErrorRecord i s.core) :
    t.core.err = false ∧ t.core.errcode = 0 := by
  rcases hi with ⟨we, addr, data, rfl⟩ | ⟨idle, rfl | rfl | rfl⟩
  · rw [core_of_exec_reset h]
    exact ⟨rfl, rfl⟩
  · cases (writeEdge_CTRL initCommand s).symm.trans h
    exact initCommand_clears idle _
  · cases (writeEdge_CTRL (initblockCommand false) s).symm.trans h
    exact initblockCommand_clears false idle _
  · cases (writeEdge_CTRL (initblockCommand true) s).symm.trans h
    exact initblockCommand_clears true idle _

/-- Settles O26: a raised error is `raise` on the core part; without one the edge keeps the record or starts a hash. -/
theorem firstErrorIsRecordedAndKept : Obligations.FirstErrorIsRecordedAndKept := by
  unfold Obligations.FirstErrorIsRecordedAndKept
  intro s t w hrst hexec
  have hcore : t.core = ciwStep s.core w := by
    cases (exec_decode w s).symm.trans hexec
    rfl
  refine ⟨fun c hc => ?raised, fun hnone hno => ?kept, fun hnone hstarts => ?cleared⟩
  case raised =>
    rw [hcore, ciwStep_of_rejection hc]
    exact raise_coreEdge_errorRecord c s.core
  case kept =>
    rcases ciwStep_of_no_rejection hrst hnone with ⟨hstarts, -⟩ | ⟨-, same⟩
    · exact absurd hstarts hno
    · rw [hcore]; exact same
  case cleared =>
    rcases ciwStep_of_no_rejection hrst hnone with ⟨-, idle⟩ | ⟨hno, -⟩
    · exact exec_clears_errorRecord hexec (.inr ⟨idle, hstarts⟩)
    · exact absurd hstarts hno

/-- Settles O27: the edge without the write is the core part alone, on which the rejected write is `raise`. -/
theorem rejectedWriteChangesOnlyTheErrorRecord : Obligations.RejectedWriteChangesOnlyTheErrorRecord := by
  unfold Obligations.RejectedWriteChangesOnlyTheErrorRecord
  intro s w c hc
  refine ⟨_, _, exec_decode w s, exec_decode idleCiw s, ?_⟩
  change ciwStep s.core w = errorRecorded c.bits s.core (ciwStep s.core idleCiw)
  rw [ciwStep_of_rejection hc, ciwStep_idleCiw, raise_eq_errorRecorded]

/-- Settles O28: by what an edge can do to the record. -/
theorem errorRecordIsClearedOnlyByANewHash : Obligations.ErrorRecordIsClearedOnlyByANewHash := by
  unfold Obligations.ErrorRecordIsClearedOnlyByANewHash
  intro i s t hexec
  refine ⟨fun hcleared => ?only, exec_clears_errorRecord hexec⟩
  rcases (exec_next_effect hexec).clears_or_keeps_or_sets with clears | ⟨herr, hcode⟩ | ⟨herr, hcode⟩
  · exact clears
  · rcases hcleared with ⟨hset, hclear⟩ | ⟨hset, hclear⟩
    · simp [herr, hset] at hclear
    · exact absurd (hcode ▸ hclear) hset
  · rcases hcleared with ⟨-, hclear⟩ | ⟨-, hclear⟩
    · simp [herr] at hclear
    · exact absurd hclear hcode

end Sys2Proof.Machine
end

section
/-! SUPPORT. The reset transaction over every state and every CIW with RST = 1 (70_reset_and_hazards.md R260). -/

namespace Sys2Proof.Machine

theorem decode_ciw_of_rst (we : Bool) (addr : Addr) (data : Word) :
    decode (ciw true we addr data) = .reset we addr data := by
  rw [decode_of_rst (ciw_rst true we addr data), ciw_we, ciw_addr, ciw_data]

/-- Settles O11: the reset edge replaces the core by the table of R43, and RST = 1 alone makes a CIW a reset. -/
theorem resetEdgeGivesTheResetState : Obligations.ResetEdgeGivesTheResetState := by
  unfold Obligations.ResetEdgeGivesTheResetState
  exact ⟨fun s we addr data => ⟨_, exec_reset we addr data s, coreState_reset_eq_resetValues, rfl⟩, decode_ciw_of_rst⟩

end Sys2Proof.Machine
end

section
/-! SUPPORT. The decoder against the encoder (30_encoding.md sections 1 to 4): which instruction each row's word decodes to, and
the row of the lowest set reserved bit. -/

namespace Sys2Proof.Machine

/-! ## Reserved bits (R86; log entry 4) -/

/-- Row k of the reserved bits, k = 3..31, with the word `v`: `malformedWrites` has it at place k - 1. -/
def IsReservedRow (k : Nat) (v : Word) (i : Instr) : Prop := 3 ≤ k ∧ k < 32 ∧ (malformedWrites v)[k - 1]? = some i

theorem lowestReservedBit_iff {k : Nat} {v : Word} (hk : 3 ≤ k) :
    lowestReservedBit k v = true ↔ v.getLsbD k = true ∧ ∀ j, 3 ≤ j → j < k → v.getLsbD j = false := by
  have hbelow : v.extractLsb' 3 (k - 3) = 0 ↔ ∀ j, 3 ≤ j → j < k → v.getLsbD j = false := by
    constructor
    · intro hzero j h3 hj
      have hbit := congrArg (fun x => x.getLsbD (j - 3)) hzero
      simpa [show j - 3 < k - 3 by omega, show 3 + (j - 3) = j by omega] using hbit
    · intro hclear
      apply BitVec.eq_of_getLsbD_eq
      intro j hj
      simpa [hj] using hclear (3 + j) (by omega) (by omega)
  rw [lowestReservedBit, Bool.and_eq_true, beq_iff_eq]
  exact and_congr_right fun _ => hbelow

/-- A word with a reserved bit set has a lowest one. -/
theorem exists_lowestReservedBit {v : Word} (h : v.extractLsb' 3 29 ≠ 0) :
    ∃ k, 3 ≤ k ∧ k < 32 ∧ lowestReservedBit k v = true := by
  have hexists : ∃ k, 3 ≤ k ∧ v.getLsbD k = true := by
    by_contra hnone
    refine h (BitVec.eq_of_getLsbD_eq fun j hj => ?_)
    simpa [hj] using fun hset => hnone ⟨3 + j, by omega, hset⟩
  obtain ⟨hk, hset⟩ := Nat.find_spec hexists
  refine ⟨Nat.find hexists, hk, BitVec.lt_of_getLsbD hset, (lowestReservedBit_iff hk).mpr ⟨hset, fun j h3 hj => ?_⟩⟩
  simpa [h3] using Nat.find_min hexists hj

/-- The chain of `decodeReserved` stops at the lowest set reserved bit. -/
theorem isReservedRow_decodeReserved {k : Nat} {v : Word} (hk : 3 ≤ k) (hk' : k < 32)
    (h : lowestReservedBit k v = true) : IsReservedRow k v (decodeReserved v) := by
  obtain ⟨hset, hclear⟩ := (lowestReservedBit_iff hk).mp h
  refine ⟨hk, hk', ?_⟩
  interval_cases k <;> simp [decodeReserved, malformedWrites, hset, hclear, -BitVec.getLsbD_eq_getElem]

/-- Every reserved-bit row has the word's own CIW, and is the canonical spelling of the words whose lowest reserved bit is the
row's. -/
theorem IsReservedRow.encode_and_wellFormed {k : Nat} {v : Word} {i : Instr} (h : IsReservedRow k v i) :
    encode i = writeCiw 0 v ∧ i.wellFormed = lowestReservedBit k v := by
  obtain ⟨hk, hk', hrow⟩ := h
  interval_cases k <;> cases hrow <;> exact ⟨rfl, rfl⟩

/-- A word with its lowest reserved bit at k ≥ 3 is none of the eight words below 8. -/
theorem decodeCtrl_of_reserved {k : Nat} {v : Word} (hk : 3 ≤ k) (h : v.getLsbD k = true) :
    decodeCtrl v = decodeReserved v := by
  have hbig : ¬ v.toNat < 8 := fun hlt => by
    have : v.getLsbD k = false := Nat.testBit_lt_two_pow (lt_of_lt_of_le hlt (Nat.pow_le_pow_right (n := 2) (by decide) hk))
    simp [h] at this
  unfold decodeCtrl
  iterate 8 rw [if_neg (fun he => hbig (by rw [he]; decide))]

/-! ## The decoder on the encoder's words -/

@[simp] theorem decode_writeCiw (addr : Addr) (v : Word) : decode (writeCiw addr v) = decodeWrite addr v := by
  simp [writeCiw, decode]

@[simp] theorem decode_readCiw (addr : Addr) (x : Word) : decode (readCiw addr x) = decodeRead addr x := by
  simp [readCiw, decode]

theorem decode_reservedRow {k : Nat} {v : Word} {i : Instr} (h : lowestReservedBit k v = true)
    (hrow : IsReservedRow k v i) : decode (writeCiw 0 v) = i := by
  obtain ⟨hk, hk', hi⟩ := hrow
  obtain ⟨-, -, hdecode⟩ := isReservedRow_decodeReserved hk hk' h
  have hcanonical : decodeReserved v = i := Option.some.inj (hdecode.symm.trans hi)
  rw [decode_writeCiw, decodeWrite, if_pos rfl, decodeCtrl_of_reserved hk ((lowestReservedBit_iff hk).mp h).1, hcanonical]

/-! An address of each row: it is in none of the rows the decoders try before that row, and its low bits are the operand. -/

theorem decode_rsvd02 (a : BitVec 1) (v : Word) :
    decodeWrite (0b00001#5 ++ a) v = .wrRsvd02 a v ∧ decodeRead (0b00001#5 ++ a) v = .rdRsvd02 a v := by
  have row :
      (0b00001#5 ++ a : Addr) ≠ 0 ∧ (0b00001#5 ++ a : Addr) ≠ 1 ∧ (0b00001#5 ++ a : Addr).extractLsb' 1 5 = 0b00001 ∧
      (0b00001#5 ++ a : Addr).extractLsb' 0 1 = a := by
    revert a; decide
  simp only [decodeWrite, decodeRead, row, ↓reduceIte, and_self]

theorem decode_rsvd04 (a : BitVec 2) (v : Word) :
    decodeWrite (0b0001#4 ++ a) v = .wrRsvd04 a v ∧ decodeRead (0b0001#4 ++ a) v = .rdRsvd04 a v := by
  have row :
      (0b0001#4 ++ a : Addr) ≠ 0 ∧ (0b0001#4 ++ a : Addr) ≠ 1 ∧ (0b0001#4 ++ a : Addr).extractLsb' 1 5 ≠ 0b00001 ∧
      (0b0001#4 ++ a : Addr).extractLsb' 2 4 = 0b0001 ∧ (0b0001#4 ++ a : Addr).extractLsb' 0 2 = a := by
    revert a; decide
  simp only [decodeWrite, decodeRead, row, ↓reduceIte, and_self]

theorem decode_rsvd08 (a : BitVec 3) (v : Word) :
    decodeWrite (0b001#3 ++ a) v = .wrRsvd08 a v ∧ decodeRead (0b001#3 ++ a) v = .rdRsvd08 a v := by
  have row :
      (0b001#3 ++ a : Addr) ≠ 0 ∧ (0b001#3 ++ a : Addr) ≠ 1 ∧ (0b001#3 ++ a : Addr).extractLsb' 1 5 ≠ 0b00001 ∧
      (0b001#3 ++ a : Addr).extractLsb' 2 4 ≠ 0b0001 ∧ (0b001#3 ++ a : Addr).extractLsb' 3 3 = 0b001 ∧
      (0b001#3 ++ a : Addr).extractLsb' 0 3 = a := by
    revert a; decide
  simp only [decodeWrite, decodeRead, row, ↓reduceIte, and_self]

theorem decode_rsvd28 (a : BitVec 3) (v : Word) :
    decodeWrite (0b101#3 ++ a) v = .wrRsvd28 a v ∧ decodeRead (0b101#3 ++ a) v = .rdRsvd28 a v := by
  have row :
      (0b101#3 ++ a : Addr) ≠ 0 ∧ (0b101#3 ++ a : Addr) ≠ 1 ∧ (0b101#3 ++ a : Addr).extractLsb' 1 5 ≠ 0b00001 ∧
      (0b101#3 ++ a : Addr).extractLsb' 2 4 ≠ 0b0001 ∧ (0b101#3 ++ a : Addr).extractLsb' 4 2 ≠ 0b01 ∧
      (0b101#3 ++ a : Addr).extractLsb' 3 3 = 0b101 ∧ (0b101#3 ++ a : Addr).extractLsb' 0 3 = a := by
    revert a; decide
  simp only [decodeWrite, decodeRead, row, ↓reduceIte]
  exact ⟨rfl, rfl⟩

theorem decode_rsvd30 (a : BitVec 4) (v : Word) :
    decodeWrite (0b11#2 ++ a) v = .wrRsvd30 a v ∧ decodeRead (0b11#2 ++ a) v = .rdRsvd30 a v := by
  have row :
      (0b11#2 ++ a : Addr) ≠ 0 ∧ (0b11#2 ++ a : Addr) ≠ 1 ∧ (0b11#2 ++ a : Addr).extractLsb' 1 5 ≠ 0b00001 ∧
      (0b11#2 ++ a : Addr).extractLsb' 2 4 ≠ 0b0001 ∧ (0b11#2 ++ a : Addr).extractLsb' 3 3 ≠ 0b001 ∧
      (0b11#2 ++ a : Addr).extractLsb' 4 2 ≠ 0b01 ∧ (0b11#2 ++ a : Addr).extractLsb' 3 3 ≠ 0b100 ∧
      (0b11#2 ++ a : Addr).extractLsb' 3 3 ≠ 0b101 ∧ (0b11#2 ++ a : Addr).extractLsb' 0 4 = a := by
    revert a; decide
  simp only [decodeWrite, decodeRead, row, ↓reduceIte, and_self]

theorem decode_write_digestAddr (j : BitVec 3) (v : Word) : decode (writeCiw (digestAddr j) v) = .wrDigest j v := by
  obtain ⟨hctrl, hstatus, h02, h04, hblk, hdigest, hindex⟩ := digestAddr_row j
  simp only [decode_writeCiw, decodeWrite, hctrl, hstatus, h02, h04, hblk, hdigest, hindex]
  rfl

/-- Settles O1: row by row; a reserved-bit row is found again by its lowest set bit. -/
theorem decodeOfEncodeIsTheInstruction : Obligations.DecodeOfEncodeIsTheInstruction := by
  unfold Obligations.DecodeOfEncodeIsTheInstruction
  intro i hi
  cases i with
  | reset we addr data => exact decode_ciw_of_rst we addr data
  | nop | init | block | blockLast | initblock | initblockLast | wrctrlMalformed4 | wrctrlMalformed5 => decide
  | wrblk i v => exact decode_write_blkAddr i v
  | wrStatus v => exact decode_writeCiw 1 v
  | wrDigest j v => exact decode_write_digestAddr j v
  | wrRsvd02 a v => exact (decode_writeCiw _ v).trans (decode_rsvd02 a v).1
  | wrRsvd04 a v => exact (decode_writeCiw _ v).trans (decode_rsvd04 a v).1
  | wrRsvd08 a v => exact (decode_writeCiw _ v).trans (decode_rsvd08 a v).1
  | wrRsvd28 a v => exact (decode_writeCiw _ v).trans (decode_rsvd28 a v).1
  | wrRsvd30 a v => exact (decode_writeCiw _ v).trans (decode_rsvd30 a v).1
  | rdctrl x => exact decode_readCiw 0 x
  | rdstat x => exact decode_readCiw 1 x
  | rdblk i x => exact decode_read_blkAddr i x
  | rddig j x => exact decode_read_digestAddr j x
  | rdRsvd02 a x => exact (decode_readCiw _ x).trans (decode_rsvd02 a x).2
  | rdRsvd04 a x => exact (decode_readCiw _ x).trans (decode_rsvd04 a x).2
  | rdRsvd08 a x => exact (decode_readCiw _ x).trans (decode_rsvd08 a x).2
  | rdRsvd28 a x => exact (decode_readCiw _ x).trans (decode_rsvd28 a x).2
  | rdRsvd30 a x => exact (decode_readCiw _ x).trans (decode_rsvd30 a x).2
  | _ => exact decode_reservedRow hi ⟨by decide, by decide, rfl⟩

/-! ## The encoder on the decoder's instructions -/

/-- The instruction is the canonical spelling of the CIW. -/
def Spells (i : Instr) (w : Ciw) : Prop := encode i = w ∧ i.WellFormed

theorem decodeCtrl_spells (v : Word) : Spells (decodeCtrl v) (writeCiw 0 v) := by
  by_cases hreserved : v.extractLsb' 3 29 = 0
  · have hsmall : v = 0 ∨ v = 1 ∨ v = 2 ∨ v = 3 ∨ v = 4 ∨ v = 5 ∨ v = 6 ∨ v = 7 := by
      by_cases hmalformed : malformed v = true
      · have := (malformed_iff v).mp hmalformed
        tauto
      · have := commandWord_cases (Bool.eq_false_iff.mpr hmalformed)
        tauto
    rcases hsmall with rfl | rfl | rfl | rfl | rfl | rfl | rfl | rfl <;> exact ⟨rfl, rfl⟩
  · obtain ⟨k, hk, hk', hlowest⟩ := exists_lowestReservedBit hreserved
    obtain ⟨hencode, hwellFormed⟩ := (isReservedRow_decodeReserved hk hk' hlowest).encode_and_wellFormed
    rw [decodeCtrl_of_reserved hk ((lowestReservedBit_iff hk).mp hlowest).1]
    exact ⟨hencode, hwellFormed.trans hlowest⟩

theorem decodeWrite_spells (addr : Addr) (v : Word) : Spells (decodeWrite addr v) (writeCiw addr v) := by
  unfold decodeWrite
  split_ifs with hctrl hstatus h02 h04 h08 hblk hdigest h28
  · subst hctrl; exact decodeCtrl_spells v
  · subst hstatus; exact ⟨rfl, rfl⟩
  · exact ⟨congrArg (writeCiw · v) (rsvd02_row h02).1, rfl⟩
  · exact ⟨congrArg (writeCiw · v) (rsvd04_row h04).1, rfl⟩
  · exact ⟨congrArg (writeCiw · v) (rsvd08_row h08).1, rfl⟩
  · exact ⟨congrArg (writeCiw · v) (blk_row hblk).1, rfl⟩
  · exact ⟨congrArg (writeCiw · v) (digest_row hdigest).1, rfl⟩
  · exact ⟨congrArg (writeCiw · v) (rsvd28_row h28).1, rfl⟩
  · have h30 : addr.extractLsb' 4 2 = 0b11 := by have := rows_cover addr; tauto
    exact ⟨congrArg (writeCiw · v) (rsvd30_row h30).1, rfl⟩

theorem decodeRead_spells (addr : Addr) (x : Word) : Spells (decodeRead addr x) (readCiw addr x) := by
  unfold decodeRead
  split_ifs with hctrl hstatus h02 h04 h08 hblk hdigest h28
  · subst hctrl; exact ⟨rfl, rfl⟩
  · subst hstatus; exact ⟨rfl, rfl⟩
  · exact ⟨congrArg (readCiw · x) (rsvd02_row h02).1, rfl⟩
  · exact ⟨congrArg (readCiw · x) (rsvd04_row h04).1, rfl⟩
  · exact ⟨congrArg (readCiw · x) (rsvd08_row h08).1, rfl⟩
  · exact ⟨congrArg (readCiw · x) (blk_row hblk).1, rfl⟩
  · exact ⟨congrArg (readCiw · x) (digest_row hdigest).1, rfl⟩
  · exact ⟨congrArg (readCiw · x) (rsvd28_row h28).1, rfl⟩
  · have h30 : addr.extractLsb' 4 2 = 0b11 := by have := rows_cover addr; tauto
    exact ⟨congrArg (readCiw · x) (rsvd30_row h30).1, rfl⟩

theorem decode_spells (w : Ciw) : Spells (decode w) w := by
  obtain ⟨rst, we, addr, data, rfl⟩ : ∃ rst we addr data, ciw rst we addr data = w := ⟨_, _, _, _, ciw_eta w⟩
  cases rst with
  | true => rw [decode_ciw_of_rst]; exact ⟨rfl, rfl⟩
  | false =>
    cases we with
    | true => exact (decode_writeCiw addr data).symm ▸ decodeWrite_spells addr data
    | false => exact (decode_readCiw addr data).symm ▸ decodeRead_spells addr data

/-- Settles O2: a CIW is a reset, a write or a read, and each decoder spells it. -/
theorem encodeOfDecodeIsTheWord : Obligations.EncodeOfDecodeIsTheWord := by
  unfold Obligations.EncodeOfDecodeIsTheWord
  exact decode_spells

/-! ## The opcode table -/

theorem encode_row {i : Instr} (h : i.WellFormed) :
    ∃ r ∈ opcodeTable, r.mnemonic = i.mnemonic ∧ r.holds (encode i) = true := by
  cases i with
  | reset we addr data => exact Laws.EncodesInRow.reset we addr data h
  | nop => exact Laws.EncodesInRow.nop h
  | init => exact Laws.EncodesInRow.init h
  | block => exact Laws.EncodesInRow.block h
  | blockLast => exact Laws.EncodesInRow.blockLast h
  | initblock => exact Laws.EncodesInRow.initblock h
  | initblockLast => exact Laws.EncodesInRow.initblockLast h
  | wrctrlMalformed4 => exact Laws.EncodesInRow.wrctrlMalformed4 h
  | wrctrlMalformed5 => exact Laws.EncodesInRow.wrctrlMalformed5 h
  | wrctrlMalformedRsvd3 v => exact Laws.EncodesInRow.wrctrlMalformedRsvd3 v h
  | wrctrlMalformedRsvd4 v => exact Laws.EncodesInRow.wrctrlMalformedRsvd4 v h
  | wrctrlMalformedRsvd5 v => exact Laws.EncodesInRow.wrctrlMalformedRsvd5 v h
  | wrctrlMalformedRsvd6 v => exact Laws.EncodesInRow.wrctrlMalformedRsvd6 v h
  | wrctrlMalformedRsvd7 v => exact Laws.EncodesInRow.wrctrlMalformedRsvd7 v h
  | wrctrlMalformedRsvd8 v => exact Laws.EncodesInRow.wrctrlMalformedRsvd8 v h
  | wrctrlMalformedRsvd9 v => exact Laws.EncodesInRow.wrctrlMalformedRsvd9 v h
  | wrctrlMalformedRsvd10 v => exact Laws.EncodesInRow.wrctrlMalformedRsvd10 v h
  | wrctrlMalformedRsvd11 v => exact Laws.EncodesInRow.wrctrlMalformedRsvd11 v h
  | wrctrlMalformedRsvd12 v => exact Laws.EncodesInRow.wrctrlMalformedRsvd12 v h
  | wrctrlMalformedRsvd13 v => exact Laws.EncodesInRow.wrctrlMalformedRsvd13 v h
  | wrctrlMalformedRsvd14 v => exact Laws.EncodesInRow.wrctrlMalformedRsvd14 v h
  | wrctrlMalformedRsvd15 v => exact Laws.EncodesInRow.wrctrlMalformedRsvd15 v h
  | wrctrlMalformedRsvd16 v => exact Laws.EncodesInRow.wrctrlMalformedRsvd16 v h
  | wrctrlMalformedRsvd17 v => exact Laws.EncodesInRow.wrctrlMalformedRsvd17 v h
  | wrctrlMalformedRsvd18 v => exact Laws.EncodesInRow.wrctrlMalformedRsvd18 v h
  | wrctrlMalformedRsvd19 v => exact Laws.EncodesInRow.wrctrlMalformedRsvd19 v h
  | wrctrlMalformedRsvd20 v => exact Laws.EncodesInRow.wrctrlMalformedRsvd20 v h
  | wrctrlMalformedRsvd21 v => exact Laws.EncodesInRow.wrctrlMalformedRsvd21 v h
  | wrctrlMalformedRsvd22 v => exact Laws.EncodesInRow.wrctrlMalformedRsvd22 v h
  | wrctrlMalformedRsvd23 v => exact Laws.EncodesInRow.wrctrlMalformedRsvd23 v h
  | wrctrlMalformedRsvd24 v => exact Laws.EncodesInRow.wrctrlMalformedRsvd24 v h
  | wrctrlMalformedRsvd25 v => exact Laws.EncodesInRow.wrctrlMalformedRsvd25 v h
  | wrctrlMalformedRsvd26 v => exact Laws.EncodesInRow.wrctrlMalformedRsvd26 v h
  | wrctrlMalformedRsvd27 v => exact Laws.EncodesInRow.wrctrlMalformedRsvd27 v h
  | wrctrlMalformedRsvd28 v => exact Laws.EncodesInRow.wrctrlMalformedRsvd28 v h
  | wrctrlMalformedRsvd29 v => exact Laws.EncodesInRow.wrctrlMalformedRsvd29 v h
  | wrctrlMalformedRsvd30 v => exact Laws.EncodesInRow.wrctrlMalformedRsvd30 v h
  | wrctrlMalformedRsvd31 v => exact Laws.EncodesInRow.wrctrlMalformedRsvd31 v h
  | wrblk i v => exact Laws.EncodesInRow.wrblk i v h
  | wrStatus v => exact Laws.EncodesInRow.wrStatus v h
  | wrDigest j v => exact Laws.EncodesInRow.wrDigest j v h
  | wrRsvd02 a v => exact Laws.EncodesInRow.wrRsvd02 a v h
  | wrRsvd04 a v => exact Laws.EncodesInRow.wrRsvd04 a v h
  | wrRsvd08 a v => exact Laws.EncodesInRow.wrRsvd08 a v h
  | wrRsvd28 a v => exact Laws.EncodesInRow.wrRsvd28 a v h
  | wrRsvd30 a v => exact Laws.EncodesInRow.wrRsvd30 a v h
  | rdctrl x => exact Laws.EncodesInRow.rdctrl x h
  | rdstat x => exact Laws.EncodesInRow.rdstat x h
  | rdblk i x => exact Laws.EncodesInRow.rdblk i x h
  | rddig j x => exact Laws.EncodesInRow.rddig j x h
  | rdRsvd02 a x => exact Laws.EncodesInRow.rdRsvd02 a x h
  | rdRsvd04 a x => exact Laws.EncodesInRow.rdRsvd04 a x h
  | rdRsvd08 a x => exact Laws.EncodesInRow.rdRsvd08 a x h
  | rdRsvd28 a x => exact Laws.EncodesInRow.rdRsvd28 a x h
  | rdRsvd30 a x => exact Laws.EncodesInRow.rdRsvd30 a x h

/-- The two rows have no CIW in common: some bit is fixed by both, and differently. -/
def RowsDisjoint (r r' : TableRow) : Prop := r.pattern &&& r'.mask ≠ r'.pattern &&& r.mask

theorem RowsDisjoint.symm {r r' : TableRow} (h : RowsDisjoint r r') : RowsDisjoint r' r := fun heq => h heq.symm

theorem not_disjoint_of_holds {r r' : TableRow} {w : Ciw} (h : r.holds w = true) (h' : r'.holds w = true) :
    ¬ RowsDisjoint r r' := by
  rw [TableRow.holds, beq_iff_eq] at h h'
  intro hdisjoint
  apply hdisjoint
  rw [← h, ← h', BitVec.and_assoc, BitVec.and_assoc, BitVec.and_comm r.mask]

/-- The rows that are no reserved-bit rows. -/
def ordinaryRows : List TableRow := commandRows ++ writeRows ++ readRows

theorem mem_opcodeTable_iff (r : TableRow) : r ∈ opcodeTable ↔ r ∈ ordinaryRows ∨ r ∈ reservedBitRows := by
  simp only [opcodeTable, ordinaryRows, List.mem_append]
  tauto

theorem ordinaryRows_disjoint : ordinaryRows.Pairwise RowsDisjoint := by
  unfold RowsDisjoint
  decide

theorem ordinaryRows_reservedBitRows_disjoint : ∀ r ∈ ordinaryRows, ∀ r' ∈ reservedBitRows, RowsDisjoint r r' := by
  unfold RowsDisjoint
  decide

/-- Two rows of the table with a CIW in common are the same row, or both are reserved-bit rows. -/
theorem eq_or_reservedBitRows_of_not_disjoint {r r' : TableRow} (hr : r ∈ opcodeTable) (hr' : r' ∈ opcodeTable)
    (h : ¬ RowsDisjoint r r') : r' = r ∨ (r ∈ reservedBitRows ∧ r' ∈ reservedBitRows) := by
  rcases (mem_opcodeTable_iff r).mp hr with ho | hres <;> rcases (mem_opcodeTable_iff r').mp hr' with ho' | hres'
  · have hsymm : Std.Symm RowsDisjoint := ⟨fun _ _ => RowsDisjoint.symm⟩
    by_contra hne
    exact h (ordinaryRows_disjoint.forall ho ho' fun heq => hne (.inl heq.symm))
  · exact absurd (ordinaryRows_reservedBitRows_disjoint r ho r' hres') h
  · exact absurd (ordinaryRows_reservedBitRows_disjoint r' ho' r hres).symm h
  · exact .inr ⟨hres, hres'⟩

/-- Settles O3: the decoded instruction is well formed, its word lies in its row, and rows that share a word are as stated. -/
theorem decodedRowIsTheOnlyRowOfAWord : Obligations.DecodedRowIsTheOnlyRowOfAWord := by
  unfold Obligations.DecodedRowIsTheOnlyRowOfAWord
  intro w
  obtain ⟨hword, hwellFormed⟩ := decode_spells w
  obtain ⟨r, hr, hmnemonic, hholds⟩ := encode_row hwellFormed
  rw [hword] at hholds
  exact ⟨r, hr, hmnemonic, hholds, fun r' hr' hholds' =>
    eq_or_reservedBitRows_of_not_disjoint hr hr' (not_disjoint_of_holds hholds hholds')⟩

/-! ## Words and numbers -/

/-- Settles O4: each word is decoded by evaluation. -/
theorem specWordsDecodeToTheirTransactions : Obligations.SpecWordsDecodeToTheirTransactions := by
  unfold Obligations.SpecWordsDecodeToTheirTransactions
  decide

theorem decodeBits_of_lt {n : Nat} (h : n < 2 ^ 40) : decodeBits n = .ok (decode (BitVec.ofNat 40 n)) := if_pos h

theorem decodeBits_of_ge {n : Nat} (h : 2 ^ 40 ≤ n) : decodeBits n = .error .widerThanCiw := if_neg (Nat.not_lt.mpr h)

/-- A table word is cut to 40 bits, so it is always a CIW. -/
theorem decodeTableWord_forty (n : Nat) : decodeTableWord 40 n = some (decode (BitVec.ofNat 40 (n % 2 ^ 40))) := by
  rw [decodeTableWord, decodeBits_of_lt (Nat.mod_lt n (by decide))]

/-- Settles O5: the decoder's bound is 2^40. -/
theorem onlyWiderNumbersAreNoTransaction : Obligations.OnlyWiderNumbersAreNoTransaction := by
  unfold Obligations.OnlyWiderNumbersAreNoTransaction
  refine ⟨fun n => ⟨fun hrejected => ?wide, decodeBits_of_ge⟩, fun n hn => ?ciw⟩
  case wide =>
    by_contra hnarrow
    rw [decodeBits_of_lt (Nat.not_le.mp hnarrow)] at hrejected
    cases hrejected
  case ciw => rw [decodeTableWord_forty, Nat.mod_eq_of_lt hn]

/-- Settles O6: with a CIW left it is the next one; with none it is the idle cycle, the read of CTRL. -/
theorem stepRunsTheDecodedTransaction : Obligations.StepRunsTheDecodedTransaction := by
  unfold Obligations.StepRunsTheDecodedTransaction
  intro s
  refine ⟨fun w rest hinputs => ?next, fun hinputs => ?idle⟩
  case next => simp only [step, State.nextInput, State.takeInput, hinputs, List.tail_cons]
  case idle =>
    have htake : s.takeInput = s := by cases s; cases hinputs; rfl
    rw [step, htake, State.nextInput, hinputs]
    rfl

/-- Settles O10: the presented CIW is the table word's low 40 bits, which is what the table word decodes by. -/
theorem fetchWordIsWhatTheNextStepRuns : Obligations.FetchWordIsWhatTheNextStepRuns := by
  unfold Obligations.FetchWordIsWhatTheNextStepRuns
  intro s w i hdecode
  rw [decodeTableWord_forty, Option.some.injEq] at hdecode
  rw [step, State.withFetchWord, presentNext_nextInput, presentNext_takeInput, hdecode]
  rfl

end Sys2Proof.Machine
end

section
/-! SUPPORT. The machine's step and run in terms of the port step (10_state.md R21, 30_encoding.md R80): one edge, a list of
edges, and what one edge can do to the core. -/

namespace Sys2Proof.Machine

/-! ## One edge -/

theorem step_eq (s : State) :
    step s = .next {
      core := ciwStep s.core s.nextInput, inputs := s.inputs.tail, rdata := readData s.core s.nextInput.addr } :=
  exec_decode s.nextInput s.takeInput

theorem nextInput_of_inputs {s : State} {w : Ciw} {ws : List Ciw} (h : s.inputs = w :: ws) : s.nextInput = w := by
  rw [State.nextInput, h]

/-- An edge of the core does what the transaction of its CIW can do. -/
theorem ciwStep_effect (s : CoreState) (w : Ciw) : EdgeEffect (decode w) s (ciwStep s w) :=
  exec_next_effect (exec_decode w ⟨s, [], 0⟩)

/-! ## A list of edges -/

@[simp] theorem ciwRun_nil (s : CoreState) : ciwRun s [] = s := rfl

@[simp] theorem ciwRun_cons (s : CoreState) (w : Ciw) (ws : List Ciw) :
    ciwRun s (w :: ws) = ciwRun (ciwStep s w) ws := rfl

@[simp] theorem ciwRun_append (s : CoreState) (ws ws' : List Ciw) :
    ciwRun s (ws ++ ws') = ciwRun (ciwRun s ws) ws' := List.foldl_append

theorem noReset_append {ws ws' : List Ciw} : NoReset (ws ++ ws') ↔ NoReset ws ∧ NoReset ws' := List.forall_mem_append

/-- A run over the first CIWs of the list. -/
theorem run_of_inputs (ws : List Ciw) {rest : List Ciw} {s : State} (h : s.inputs = ws ++ rest) :
    ∃ t, Host.Core.run Sys2Proof.core ws.length s = .next t ∧ t.core = ciwRun s.core ws ∧ t.inputs = rest := by
  induction ws generalizing s with
  | nil => exact ⟨s, run_zero s, rfl, h⟩
  | cons w ws ih =>
    have hstep := step_eq s
    rw [nextInput_of_inputs h, h] at hstep
    obtain ⟨t, hrun, hcore, hinputs⟩ := ih (s := ⟨ciwStep s.core w, ws ++ rest, readData s.core w.addr⟩) rfl
    exact ⟨t, (run_succ ws.length hstep).trans hrun, hcore, hinputs⟩

/-- Settles O9: by induction on the list of CIWs. -/
theorem runFoldsThePortStep : Obligations.RunFoldsThePortStep := by
  unfold Obligations.RunFoldsThePortStep
  exact fun s ws rest h => run_of_inputs ws h

end Sys2Proof.Machine
end

section
/-! Proofs of the invariants of 10_state.md R42: they hold at reset, and every edge keeps them. -/

namespace Sys2Proof.Machine

theorem coreState_reset_inv : CoreState.reset.Inv := by
  constructor <;> decide

/-- ROUND: valid and FINALIZED would contradict the invariant before the edge; only the last round leaves ROUND, with t = 0. -/
theorem roundEdge_inv {s : CoreState} (h : s.Inv) (hround : s.fsm = .ROUND) : (roundEdge s).Inv where
  counter_zero hfsm := by
    by_cases ht : s.t = 63
    · exact (roundEdge_last_round ht).2
    · exact absurd (roundEdge_earlier_round ht).1 hfsm
  last_clear hfsm := by
    rw [roundEdge_fsm] at hfsm
    split at hfsm <;> cases hfsm
  finalized_idle hfinal := by cases hround.symm.trans (h.finalized_idle hfinal)
  valid_idle hvalid := by cases hround.symm.trans (h.valid_idle hvalid)
  no_error_code := h.no_error_code
  error_code := h.error_code
  status_reserved := statusWord_reserved _

theorem updateEdge_inv {s : CoreState} (h : s.Inv) (hupdate : s.fsm = .UPDATE) : (updateEdge s).Inv where
  counter_zero _ := h.counter_zero (by simp [hupdate])
  last_clear _ := rfl
  finalized_idle _ := rfl
  valid_idle _ := rfl
  no_error_code := h.no_error_code
  error_code := h.error_code
  status_reserved := statusWord_reserved _

theorem coreEdge_inv {s : CoreState} (h : s.Inv) : (coreEdge s).Inv := by
  cases hfsm : s.fsm with
  | IDLE => rw [coreEdge_idle s hfsm]; exact h
  | ROUND => rw [coreEdge_round s hfsm]; exact roundEdge_inv h hfsm
  | UPDATE => rw [coreEdge_update s hfsm]; exact updateEdge_inv h hfsm

theorem ErrCode.bits_cases (c : ErrCode) : c.bits = 1 ∨ c.bits = 2 ∨ c.bits = 3 ∨ c.bits = 4 := by
  cases c <;> decide

/-- A recorded error is one of the four causes, the first one since the record was clear. -/
theorem raise_inv (c : ErrCode) {s n : CoreState} (h : n.Inv) : (raise c s n).Inv := by
  unfold raise
  split
  · exact h
  · exact { h with
      no_error_code := nofun
      error_code := fun _ => c.bits_cases
      status_reserved := statusWord_reserved _ }

theorem writeBLK_inv (i : BitVec 4) (v : Word) {n : CoreState} (h : n.Inv) : (writeBLK i v n).Inv :=
  { h with status_reserved := statusWord_reserved _ }

theorem EdgeEffect.inv {i : Instr} {s n : CoreState} (e : EdgeEffect i s n) (h : s.Inv) : n.Inv := by
  cases e with
  | reset _ => exact coreState_reset_inv
  | nothing => exact coreEdge_inv h
  | rejected c => exact raise_inv c (coreEdge_inv h)
  | wrote k v _ => exact writeBLK_inv k v (coreEdge_inv h)
  | init _ idle =>
    exact { h with
      finalized_idle := fun _ => idle, valid_idle := nofun, no_error_code := fun _ => rfl, error_code := nofun
      status_reserved := statusWord_reserved _ }
  | block last _ idle accepting =>
    exact { h with
      counter_zero := fun _ => rfl, last_clear := nofun, finalized_idle := fun hfinal => absurd hfinal accepting
      valid_idle := nofun, status_reserved := statusWord_reserved _ }
  | initblock last _ idle =>
    exact {
      counter_zero := fun _ => rfl, last_clear := nofun, finalized_idle := nofun, valid_idle := nofun
      no_error_code := fun _ => rfl, error_code := nofun, status_reserved := statusWord_reserved _ }

/-- Settles O42: each invariant at the values of R43. -/
theorem invariantsHoldAtReset : Obligations.InvariantsHoldAtReset := by
  unfold Obligations.InvariantsHoldAtReset
  exact coreState_reset_inv

/-- Settles O43: every effect an edge can have keeps the invariants. -/
theorem everyStepKeepsTheInvariants : Obligations.EveryStepKeepsTheInvariants := by
  unfold Obligations.EveryStepKeepsTheInvariants
  intro s t hs hstep
  exact (exec_next_effect (s := s.takeInput) hstep).inv hs

end Sys2Proof.Machine
end


section
/-! Proofs about hidden state (10_state.md R41, 42_message_schedule.md R155): two states the host cannot tell apart stay so at
every edge, since no read, no check and no later edge uses what they differ in. -/

namespace Sys2Proof.Machine

variable {s s' n n' : CoreState}

theorem CoreState.SameToHost.refl (s : CoreState) : s.SameToHost s :=
  ⟨rfl, rfl, rfl, rfl, rfl, rfl, rfl, rfl, fun _ => ⟨rfl, rfl, rfl⟩, fun _ => rfl⟩

/-! ## What the host sees -/

theorem CoreState.SameToHost.ready (h : s.SameToHost s') : s.ready = s'.ready := by
  rw [CoreState.ready, CoreState.ready, h.fsm]

theorem CoreState.SameToHost.statusWord (h : s.SameToHost s') : statusWord s = statusWord s' := by
  simp only [Machine.statusWord, CoreState.final, h.ready, h.valid, h.phase, h.err, h.errcode]

theorem CoreState.SameToHost.readData (h : s.SameToHost s') (addr : Addr) : readData s addr = readData s' addr := by
  simp only [Machine.readData, readBLK, readDIGEST, h.statusWord, h.BLK, h.H]

/-! ## The core part of an edge -/

/-- A round reads a..h, Wwin and t, which agree in ROUND; a..h agree after it, so after the last round too. -/
theorem roundEdge_sameToHost (h : s.SameToHost s') (hround : s.fsm = .ROUND) :
    (roundEdge s).SameToHost (roundEdge s') := by
  obtain ⟨hwork, hWwin, ht⟩ := h.inRound hround
  have hwork' : (roundEdge s).work = (roundEdge s').work := by simp only [roundEdge_work, hwork, hWwin, ht]
  exact { h with
    fsm := by simp only [roundEdge_fsm, ht]
    inRound := fun _ => ⟨hwork', by simp only [roundEdge_Wwin, hWwin], by simp only [roundEdge_t, ht]⟩
    inUpdate := fun _ => hwork' }

/-- UPDATE reads a..h, which agree in UPDATE, and leaves the core IDLE, where hidden state is read no more. -/
theorem updateEdge_sameToHost (h : s.SameToHost s') (hupdate : s.fsm = .UPDATE) :
    (updateEdge s).SameToHost (updateEdge s') :=
  { h with
    H := by simp only [updateEdge_H, h.H, h.inUpdate hupdate]
    fsm := rfl
    last := rfl
    phase := by simp only [updateEdge_phase, h.last, h.phase]
    valid := rfl
    inRound := nofun
    inUpdate := nofun }

theorem coreEdge_sameToHost (h : s.SameToHost s') : (coreEdge s).SameToHost (coreEdge s') := by
  have hfsm' := h.fsm.symm
  cases hfsm : s.fsm with
  | IDLE => rwa [coreEdge_idle s hfsm, coreEdge_idle s' (hfsm'.trans hfsm)]
  | ROUND => rw [coreEdge_round s hfsm, coreEdge_round s' (hfsm'.trans hfsm)]; exact roundEdge_sameToHost h hfsm
  | UPDATE => rw [coreEdge_update s hfsm, coreEdge_update s' (hfsm'.trans hfsm)]; exact updateEdge_sameToHost h hfsm

/-! ## The host part of an edge: it reads fsm, phase, err, H and BLK of the state before the edge -/

theorem raise_sameToHost (c : ErrCode) (h : s.SameToHost s') (hn : n.SameToHost n') :
    (raise c s n).SameToHost (raise c s' n') := by
  unfold raise
  rw [h.err]
  split
  · exact hn
  · exact { hn with err := rfl, errcode := rfl }

theorem writeBLK_sameToHost (i : BitVec 4) (v : Word) (hn : n.SameToHost n') :
    (writeBLK i v n).SameToHost (writeBLK i v n') :=
  { hn with BLK := by simp only [writeBLK_BLK, hn.BLK] }

theorem initCommand_sameToHost (h : s.SameToHost s') (hn : n.SameToHost n') :
    (initCommand s n).SameToHost (initCommand s' n') := by
  unfold initCommand
  rw [h.fsm]
  split
  · exact raise_sameToHost _ h hn
  · exact { hn with H := rfl, phase := rfl, valid := rfl, err := rfl, errcode := rfl }

theorem blockCommand_sameToHost (last : Bool) (h : s.SameToHost s') (hn : n.SameToHost n') :
    (blockCommand last s n).SameToHost (blockCommand last s' n') := by
  unfold blockCommand
  rw [h.fsm, h.phase]
  split
  · exact raise_sameToHost _ h hn
  · split
    · exact raise_sameToHost _ h hn
    · exact { hn with
        fsm := rfl, last := rfl, valid := rfl
        inRound := fun _ => ⟨congrArg Working.ofHash h.H, h.BLK, rfl⟩
        inUpdate := nofun }

theorem initblockCommand_sameToHost (last : Bool) (h : s.SameToHost s') (hn : n.SameToHost n') :
    (initblockCommand last s n).SameToHost (initblockCommand last s' n') := by
  unfold initblockCommand
  rw [h.fsm]
  split
  · exact raise_sameToHost _ h hn
  · exact { hn with
      H := rfl, fsm := rfl, last := rfl, phase := rfl, valid := rfl, err := rfl, errcode := rfl
      inRound := fun _ => ⟨rfl, h.BLK, rfl⟩
      inUpdate := nofun }

theorem command_sameToHost (v : Word) (h : s.SameToHost s') (hn : n.SameToHost n') :
    (command s n v).SameToHost (command s' n' v) := by
  unfold command
  dsimp only
  split_ifs
  · exact raise_sameToHost _ h hn
  · exact hn
  · exact initCommand_sameToHost h hn
  · exact blockCommand_sameToHost _ h hn
  · exact initblockCommand_sameToHost _ h hn

/-! ## The edge and the run -/

theorem portStep_sameToHost (rst we : Bool) (addr : Addr) (v : Word) (h : s.SameToHost s') :
    (portStep s rst we addr v).SameToHost (portStep s' rst we addr v) := by
  have hcore := coreEdge_sameToHost h
  cases rst with
  | true => exact .refl CoreState.reset
  | false =>
    cases we with
    | false => exact hcore
    | true =>
      cases htarget : target addr with
      | ctrl => simpa [portStep, htarget] using command_sameToHost v h hcore
      | blk i => simpa [portStep, htarget] using writeBLK_sameToHost i v hcore
      | _ => simpa [portStep, htarget] using raise_sameToHost .ERR_ADDR h hcore

theorem ciwStep_sameToHost (w : Ciw) (h : s.SameToHost s') : (ciwStep s w).SameToHost (ciwStep s' w) :=
  portStep_sameToHost w.rst w.we w.addr w.data h

end Sys2Proof.Machine
end

section
/-! Proof of noninterference (10_state.md section 5): the relation of the section before, carried along a run. -/

namespace Sys2Proof.Machine

/-- Two machines the host cannot tell apart, driven alike, with what it has seen last. -/
structure State.SameToHost (s s' : State) : Prop where
  core : s.core.SameToHost s'.core
  inputs : s.inputs = s'.inputs
  rdata : s.rdata = s'.rdata

theorem step_sameToHost {s s' : State} (h : s.SameToHost s') :
    ∃ t t', step s = .next t ∧ step s' = .next t' ∧ t.SameToHost t' := by
  have hnext : s.nextInput = s'.nextInput := by rw [State.nextInput, State.nextInput, h.inputs]
  refine ⟨_, _, step_eq s, step_eq s', ?core, ?inputs, ?rdata⟩
  case core => rw [hnext]; exact ciwStep_sameToHost _ h.core
  case inputs => exact congrArg List.tail h.inputs
  case rdata => rw [hnext]; exact h.core.readData _

theorem run_sameToHost (n : Nat) {s s' : State} (h : s.SameToHost s') :
    ∃ t t', Host.Core.run Sys2Proof.core n s = .next t ∧ Host.Core.run Sys2Proof.core n s' = .next t' ∧
      t.SameToHost t' := by
  induction n generalizing s s' with
  | zero => exact ⟨s, s', run_zero s, run_zero s', h⟩
  | succ n ih =>
    obtain ⟨u, u', hstep, hstep', hu⟩ := step_sameToHost h
    obtain ⟨t, t', hrun, hrun', ht⟩ := ih hu
    exact ⟨t, t', (run_succ n hstep).trans hrun, (run_succ n hstep').trans hrun', ht⟩

/-- Settles O48: the relation holds at every edge of the two runs, and it fixes rdata and ready. -/
theorem hiddenStateIsNeverObserved : Obligations.HiddenStateIsNeverObserved := by
  unfold Obligations.HiddenStateIsNeverObserved
  intro s s' n hcore hinputs hrdata
  obtain ⟨t, t', hrun, hrun', h⟩ := run_sameToHost n ⟨hcore, hinputs, hrdata⟩
  exact ⟨t, t', hrun, hrun', h.core, h.inputs, h.rdata, h.core.ready⟩

end Sys2Proof.Machine
end

section
/-! Proofs about who writes what (10_state.md sections 2 and 3): for each element, what the host part of an edge can do to it,
the rest being the core's own part. -/

namespace Sys2Proof.Machine

variable {i : Instr} {s n : CoreState}

/-! ## H -/

theorem addBack_get (H : Hash) (r : Working) (k : Fin 8) :
    (addBack H r)[k] = H[k] + #v[r.a, r.b, r.c, r.d, r.e, r.f, r.g, r.h][k] := by
  fin_cases k <;> rfl

theorem coreEdge_H_of_ne (h : (coreEdge s).H ≠ s.H) : s.fsm = .UPDATE ∧ (coreEdge s).H = addBack s.H s.work := by
  cases hfsm : s.fsm with
  | IDLE => exact absurd (by rw [coreEdge_idle s hfsm]) h
  | ROUND => exact absurd (by rw [coreEdge_round s hfsm, roundEdge_H]) h
  | UPDATE => exact ⟨rfl, by rw [coreEdge_update s hfsm, updateEdge_H]⟩

theorem EdgeEffect.H_cases (e : EdgeEffect i s n) :
    (IsReset i ∧ n.H = IV) ∨ (StartsHash i ∧ s.fsm = .IDLE ∧ n.H = IV) ∨ n.H = (coreEdge s).H := by
  cases e with
  | reset h => exact .inl ⟨h, rfl⟩
  | nothing => exact .inr (.inr rfl)
  | rejected c => exact .inr (.inr (raise_H c s _))
  | wrote k v _ => exact .inr (.inr rfl)
  | init h idle => exact .inr (.inl ⟨.inl h, idle, rfl⟩)
  | block last _ idle _ => exact .inr (.inr (by rw [coreEdge_idle s idle]; rfl))
  | initblock last h idle => exact .inr (.inl ⟨by cases last <;> simp [StartsHash, h], idle, rfl⟩)

/-- Settles O29: the host part loads IV or leaves H to the core part, which writes it in UPDATE only. -/
theorem hashStateWriters : Obligations.HashStateWriters := by
  unfold Obligations.HashStateWriters
  intro i s t hexec hne
  rcases (exec_next_effect hexec).H_cases with hreset | hstart | hcore
  · exact .inl hreset
  · exact .inr (.inl hstart)
  · rw [hcore] at hne ⊢
    obtain ⟨hupdate, hadd⟩ := coreEdge_H_of_ne hne
    exact .inr (.inr ⟨hupdate, fun k => by rw [hadd, addBack_get]⟩)

/-! ## a..h -/

theorem coreEdge_work_of_ne (h : (coreEdge s).work ≠ s.work) : s.fsm = .ROUND := by
  cases hfsm : s.fsm with
  | IDLE => exact absurd (by rw [coreEdge_idle s hfsm]) h
  | ROUND => rfl
  | UPDATE => exact absurd (by rw [coreEdge_update s hfsm, updateEdge_work]) h

theorem EdgeEffect.work_cases (e : EdgeEffect i s n) :
    IsReset i ∨ n.work = (coreEdge s).work ∨
      (s.fsm = .IDLE ∧ n.fsm = .ROUND ∧ (i = .block ∨ i = .blockLast ∨ i = .initblock ∨ i = .initblockLast)) := by
  cases e with
  | reset h => exact .inl h
  | nothing => exact .inr (.inl rfl)
  | rejected c => exact .inr (.inl (raise_work c s _))
  | wrote k v _ => exact .inr (.inl rfl)
  | init _ idle => exact .inr (.inl (by rw [coreEdge_idle s idle]))
  | block last h idle _ => exact .inr (.inr ⟨idle, rfl, by cases last <;> simp [h]⟩)
  | initblock last h idle => exact .inr (.inr ⟨idle, rfl, by cases last <;> simp [h]⟩)

/-- Settles O30: the host part loads a..h with an accepted block command only, and the core part writes them in ROUND only. -/
theorem workingRegisterWriters : Obligations.WorkingRegisterWriters := by
  unfold Obligations.WorkingRegisterWriters
  intro i s t hexec hne
  rcases (exec_next_effect hexec).work_cases with hreset | hcore | hload
  · exact .inl hreset
  · rw [hcore] at hne
    exact .inr (.inl (coreEdge_work_of_ne hne))
  · exact .inr (.inr hload)

/-! ## BLK -/

theorem EdgeEffect.BLK_cases (e : EdgeEffect i s n) :
    IsReset i ∨ (∃ k v, i = .wrblk k v ∧ n = writeBLK k v (coreEdge s)) ∨ n.BLK = s.BLK := by
  cases e with
  | reset h => exact .inl h
  | nothing => exact .inr (.inr (coreEdge_BLK s))
  | rejected c => exact .inr (.inr (by simp))
  | wrote k v h => exact .inr (.inl ⟨k, v, h, rfl⟩)
  | init _ _ => exact .inr (.inr rfl)
  | block _ _ _ _ => exact .inr (.inr rfl)
  | initblock _ _ _ => exact .inr (.inr rfl)

/-- Settles O31: a write of BLK[k'] changes the word k' only. -/
theorem blockBufferWriters : Obligations.BlockBufferWriters := by
  unfold Obligations.BlockBufferWriters
  intro i s t k hexec hne
  rcases (exec_next_effect hexec).BLK_cases with hreset | ⟨k', v, hi, ht⟩ | hsame
  · exact .inl hreset
  · rw [ht] at hne ⊢
    have hk : k = k' := by
      by_contra hother
      exact hne ((readBLK_writeBLK_other k' k v _ hother).trans (by simp only [readBLK, coreEdge_BLK]))
    subst hk
    exact .inr ⟨v, hi, readBLK_writeBLK_same k v _⟩
  · exact absurd (by simp only [readBLK, hsame]) hne

/-! ## valid, last and phase -/

/-- What an edge without reset may do to valid, last and phase (10_state.md section 3). -/
structure FlagRules (i : Instr) (s n : CoreState) : Prop where
  valid_set : s.valid = false → n.valid = true → s.fsm = .UPDATE
  update : s.fsm = .UPDATE → n.valid = true ∧ n.last = false
  valid_cleared : s.valid = true → n.valid = false → s.fsm = .IDLE ∧ (StartsHash i ∨ i = .block ∨ i = .blockLast)
  last_set : s.last = false → n.last = true → s.fsm = .IDLE ∧ (i = .blockLast ∨ i = .initblockLast)
  finalized : s.phase = .ACCEPTING → n.phase = .FINALIZED → s.fsm = .UPDATE ∧ s.last = true
  accepting : s.phase = .FINALIZED → n.phase = .ACCEPTING → s.fsm = .IDLE ∧ StartsHash i

/-- The core part writes the flags in UPDATE only: it sets valid, clears last, and enters FINALIZED after a last block. -/
theorem flagRules_of_coreEdge (hvalid : n.valid = (coreEdge s).valid) (hlast : n.last = (coreEdge s).last)
    (hphase : n.phase = (coreEdge s).phase) : FlagRules i s n := by
  cases hfsm : s.fsm with
  | IDLE =>
    rw [coreEdge_idle s hfsm] at hvalid hlast hphase
    constructor <;> simp +contextual [hvalid, hlast, hphase, hfsm]
  | ROUND =>
    rw [coreEdge_round s hfsm] at hvalid hlast hphase
    constructor <;> simp +contextual [hvalid, hlast, hphase, hfsm]
  | UPDATE =>
    rw [coreEdge_update s hfsm] at hvalid hlast hphase
    constructor <;> simp +contextual [hvalid, hlast, hphase, hfsm]

theorem EdgeEffect.flagRules (e : EdgeEffect i s n) (hi : ¬ IsReset i) : FlagRules i s n := by
  cases e with
  | reset h => exact absurd h hi
  | nothing => exact flagRules_of_coreEdge rfl rfl rfl
  | rejected c => exact flagRules_of_coreEdge (raise_valid c s _) (raise_last c s _) (raise_phase c s _)
  | wrote k v _ => exact flagRules_of_coreEdge rfl rfl rfl
  | init h idle => constructor <;> simp +contextual [h, idle, StartsHash]
  | block last h idle _ => constructor <;> cases last <;> simp +contextual [h, idle]
  | initblock last h idle => constructor <;> cases last <;> simp +contextual [h, idle, StartsHash]

/-- Settles O32: the rules hold of every effect but a reset's. -/
theorem validLastAndPhaseWriters : Obligations.ValidLastAndPhaseWriters := by
  unfold Obligations.ValidLastAndPhaseWriters
  intro i s t hexec hi
  have rules := (exec_next_effect hexec).flagRules hi
  exact ⟨rules.valid_set, rules.update, rules.valid_cleared, rules.last_set, rules.finalized, rules.accepting⟩

/-! ## A FINALIZED core (44_host_interface.md section 6) -/

/-- In FINALIZED, which is IDLE, block commands are rejected, so only a reset or a new hash can change H or phase. -/
theorem EdgeEffect.keeps_finalized (e : EdgeEffect i s n) (hi : ¬ IsReset i) (hstart : ¬ StartsHash i)
    (idle : s.fsm = .IDLE) (final : s.phase = .FINALIZED) : n.H = s.H ∧ n.phase = .FINALIZED ∧ n.fsm = .IDLE := by
  have hcore := coreEdge_idle s idle
  cases e with
  | reset h => exact absurd h hi
  | nothing => rw [hcore]; exact ⟨rfl, final, idle⟩
  | rejected c => rw [hcore]; exact ⟨raise_H c s s, (raise_phase c s s).trans final, (raise_fsm c s s).trans idle⟩
  | wrote k v _ => rw [hcore]; exact ⟨rfl, final, idle⟩
  | init h _ => exact absurd (.inl h) hstart
  | block _ _ _ accepting => exact absurd final accepting
  | initblock last h _ => exact absurd (by cases last <;> simp [StartsHash, h]) hstart

theorem ciwRun_keeps_finalized (ws : List Ciw) (hws : ∀ w ∈ ws, ¬ IsReset (decode w) ∧ ¬ StartsHash (decode w))
    (idle : s.fsm = .IDLE) (final : s.phase = .FINALIZED) :
    (ciwRun s ws).H = s.H ∧ (ciwRun s ws).phase = .FINALIZED ∧ (ciwRun s ws).fsm = .IDLE := by
  induction ws generalizing s with
  | nil => exact ⟨rfl, final, idle⟩
  | cons w ws ih =>
    obtain ⟨⟨hreset, hstart⟩, hrest⟩ := List.forall_mem_cons.mp hws
    obtain ⟨hH, hphase, hfsm⟩ := (ciwStep_effect s w).keeps_finalized hreset hstart idle final
    rw [ciwRun_cons, ← hH]
    exact ih hrest hfsm hphase

/-- Settles O47: a FINALIZED core that meets the invariants is IDLE, and stays as it is edge by edge. -/
theorem finalizedDigestDoesNotChange : Obligations.FinalizedDigestDoesNotChange := by
  unfold Obligations.FinalizedDigestDoesNotChange
  intro s ws hs hfinal hws
  exact ciwRun_keeps_finalized ws hws (hs.finalized_idle hfinal) hfinal

end Sys2Proof.Machine
end

section
/-! Proofs of the short statements about single transactions: malformed words, reads, the address map, the constants, and the
equivalences of the commands. -/

namespace Sys2Proof.Machine

/-- Settles O17: the 31 rows share the meaning of R203. -/
theorem malformedCommandWordsRecordErrCtrl : Obligations.MalformedCommandWordsRecordErrCtrl := by
  unfold Obligations.MalformedCommandWordsRecordErrCtrl
  intro s v i hi
  rw [exec_of_mem_malformedWrites hi, writeEdge_CTRL, raise_eq_errorRecorded, ErrCode.bits]

/-- Settles O24: a read and an idle cycle are both the core part alone, which does nothing while IDLE. -/
theorem everyReadActsAsIdle : Obligations.EveryReadActsAsIdle := by
  unfold Obligations.EveryReadActsAsIdle
  intro s w hrst hwe
  have hread := ciwStep_read s.core hrst hwe
  exact ⟨_, _, exec_decode w s, exec_decode idleCiw s, hread.trans (ciwStep_idleCiw s.core).symm,
    fun idle => hread.trans (coreEdge_idle s.core idle)⟩

theorem target_of_toNat_blk {a : Addr} {i : BitVec 4} (h : a.toNat = 0x10 + i.toNat) : target a = .blk i := by
  revert a i; decide

theorem target_of_toNat_digest {a : Addr} {j : BitVec 3} (h : a.toNat = 0x20 + j.toNat) : target a = .digest j := by
  revert a j; decide

/-- Settles O25: a read shows the register its address is mapped to. -/
theorem addressMapOfReads : Obligations.AddressMapOfReads := by
  unfold Obligations.AddressMapOfReads
  intro s a
  refine ⟨fun hctrl => ?_, fun hstatus => ?_, fun i hi => readData_blk (target_of_toNat_blk hi),
    fun j hj => readData_digest (target_of_toNat_digest hj), fun hreserved => ?_⟩
  · exact readData_eq_zero (target_ctrl_or_reserved (.inl hctrl))
  · subst hstatus; rfl
  · exact readData_eq_zero (target_ctrl_or_reserved (.inr (hreserved.imp_right And.left)))

/-- Settles O38: the whole parts of the roots are below 8, so each entry of the two tables is checked by evaluation. -/
theorem constantsAreRootsOfPrimes : Obligations.ConstantsAreRootsOfPrimes := by
  unfold Obligations.ConstantsAreRootsOfPrimes
  decide

theorem exec_init_idle {s : State} (idle : s.core.fsm = .IDLE) :
    exec .init s = .next { s with
      core := { s.core with H := IV, valid := false, phase := .ACCEPTING, err := false, errcode := 0 }, rdata := 0 } := by
  rw [← initCommand_idle s.core s.core idle, ← congrArg (initCommand s.core) (coreEdge_idle s.core idle)]
  rfl

theorem exec_block_accepted (last : Bool) {s : State} (idle : s.core.fsm = .IDLE) (accepting : s.core.phase ≠ .FINALIZED) :
    exec (if last then .blockLast else .block) s = .next { s with
      core := { loadBlock s.core.H s.core s.core with valid := false, last := last }, rdata := 0 } := by
  rw [← blockCommand_accepted last s.core s.core idle accepting,
    ← congrArg (blockCommand last s.core) (coreEdge_idle s.core idle)]
  cases last <;> rfl

theorem exec_initblock_idle (last : Bool) {s : State} (idle : s.core.fsm = .IDLE) :
    exec (if last then .initblockLast else .initblock) s = .next { s with
      core := { loadBlock IV s.core s.core with
        H := IV, valid := false, phase := .ACCEPTING, last := last, err := false, errcode := 0 }
      rdata := 0 } := by
  rw [← initblockCommand_idle last s.core s.core idle,
    ← congrArg (initblockCommand last s.core) (coreEdge_idle s.core idle)]
  cases last <;> rfl

/-- Settles O49: `init` leaves the core IDLE and ACCEPTING, so the `block` after it is accepted and loads from IV. -/
theorem initblockIsInitThenBlock : Obligations.InitblockIsInitThenBlock := by
  unfold Obligations.InitblockIsInitThenBlock
  intro s last idle
  exact ⟨_, _, _, exec_initblock_idle last idle, exec_init_idle idle, exec_block_accepted last idle nofun, rfl⟩

/-- Settles O50: the reset state is IDLE and ACCEPTING with H = IV, so both commands are accepted and load from IV. -/
theorem blockAfterResetIsInitblock : Obligations.BlockAfterResetIsInitblock := by
  unfold Obligations.BlockAfterResetIsInitblock
  intro s t we addr data hexec
  have ht : t.core = CoreState.reset := core_of_exec_reset hexec
  have idle : t.core.fsm = .IDLE := by rw [ht]; rfl
  have accepting : t.core.phase ≠ .FINALIZED := by rw [ht]; nofun
  refine ⟨_, _, exec_block_accepted false idle accepting, exec_initblock_idle false idle, ?same, rfl, ?fromIV⟩
  case same => rw [ht]; rfl
  case fromIV => rw [ht]; rfl

end Sys2Proof.Machine
end

section
/-! SUPPORT. The window against the schedule (42_message_schedule.md R154). -/

namespace Sys2Proof.Machine

/-- By induction on n: the shifted words are the ones the window held, the entered one is the recurrence on its taps. -/
theorem windowStep_iterate_get (M : Block) (n : Nat) (i : Fin 16) : (windowStep^[n] M)[i] = schedule M (n + i) := by
  induction n generalizing i with
  | zero => exact (schedule_of_lt M (by omega)).symm.trans (by rw [Nat.zero_add])
  | succ n ih =>
    rw [Function.iterate_succ_apply']
    by_cases hi : i.val < 15
    · have shifted : (windowStep (windowStep^[n] M))[i] = schedule M (n + (i + 1)) :=
        (windowStep_shifts _ ⟨i, hi⟩).trans (ih ⟨i + 1, by omega⟩)
      rw [shifted, Nat.add_right_comm, Nat.add_assoc]
    · obtain rfl : i = 15 := by omega
      calc (windowStep (windowStep^[n] M))[15]
          = scheduleWord (windowStep^[n] M)[14] (windowStep^[n] M)[9] (windowStep^[n] M)[1] (windowStep^[n] M)[0] :=
            windowStep_enters _
        _ = scheduleWord (schedule M (n + 14)) (schedule M (n + 9)) (schedule M (n + 1)) (schedule M n) :=
            congr (congr (congr (congrArg scheduleWord (ih 14)) (ih 9)) (ih 1)) (ih 0)
        _ = schedule M (n + 16) := (schedule_add_sixteen M n).symm
        _ = schedule M (n + 1 + 15) := congrArg (schedule M) (by omega)

/-- Settles O41: by induction on the number of window steps. -/
theorem windowHoldsTheSchedule : Obligations.WindowHoldsTheSchedule := by
  unfold Obligations.WindowHoldsTheSchedule
  exact windowStep_iterate_get

/-- The word a round consumes is the window's word 0 (R173). -/
theorem windowStep_iterate_head (M : Block) (n : Nat) : (windowStep^[n] M)[0] = schedule M n :=
  windowStep_iterate_get M n 0

end Sys2Proof.Machine
end

section
/-! SUPPORT. A block in progress (43_compression.md R171 to R176): the state after n of its 64 rounds, and the state when it is
done, whatever the host presents but a reset. -/

namespace Sys2Proof.Machine

/-- `u` is the state after `n` of the 64 rounds of the block in progress in `s`, on all that no host transaction changes. -/
structure AfterRounds (s : CoreState) (n : Nat) (u : CoreState) : Prop where
  H : u.H = s.H
  work : u.work = rounds s.Wwin s.work n
  Wwin : u.Wwin = windowStep^[n] s.Wwin
  t : u.t = BitVec.ofNat 6 n
  fsm : u.fsm = if n < 64 then .ROUND else .UPDATE
  last : u.last = s.last
  phase : u.phase = s.phase

theorem afterRounds_zero {s : CoreState} (hfsm : s.fsm = .ROUND) (ht : s.t = 0) : AfterRounds s 0 s :=
  ⟨rfl, rfl, rfl, ht, hfsm, rfl, rfl⟩

/-- The round counter of round n is 63 in the last round only. -/
theorem ofNat_eq_63_iff {n : Nat} (hn : n < 64) : BitVec.ofNat 6 n = 63 ↔ n = 63 := by
  rw [← BitVec.toNat_inj, BitVec.toNat_ofNat, Nat.mod_eq_of_lt hn]
  rfl

/-- One more round, at an edge at which the host does not reset. -/
theorem AfterRounds.ciwStep {s u : CoreState} {n : Nat} {w : Ciw} (h : AfterRounds s n u) (hn : n < 64)
    (hrst : w.rst = false) : AfterRounds s (n + 1) (ciwStep u w) := by
  have hround : u.fsm = .ROUND := h.fsm.trans (if_pos hn)
  have agree := ciwStep_agree_of_busy (s := u) (by simp [hround]) hrst
  rw [coreEdge_round u hround] at agree
  have hlast : u.t = 63 ↔ n = 63 := by rw [h.t]; exact ofNat_eq_63_iff hn
  refine ⟨agree.H.trans h.H, ?work, ?Wwin, ?t, ?fsm, agree.last.trans h.last, agree.phase.trans h.phase⟩
  case work => rw [agree.work, roundEdge_work, rounds_succ, h.work, h.t, ← windowStep_iterate_head]; simp only [h.Wwin]
  case Wwin => rw [agree.Wwin, roundEdge_Wwin, h.Wwin, Function.iterate_succ_apply']
  case t =>
    rw [agree.t, roundEdge_t]
    by_cases h63 : n = 63
    · rw [if_pos (hlast.mpr h63), h63]; rfl
    · rw [if_neg (mt hlast.mp h63), h.t]; exact (BitVec.ofNat_add n 1).symm
  case fsm =>
    rw [agree.fsm, roundEdge_fsm]
    by_cases h63 : n = 63
    · rw [if_pos (hlast.mpr h63), if_neg (by omega)]
    · rw [if_neg (mt hlast.mp h63), if_pos (by omega)]

theorem ciwRun_afterRounds {s : CoreState} (hfsm : s.fsm = .ROUND) (ht : s.t = 0) (ws : List Ciw) (hrst : NoReset ws)
    (hlength : ws.length ≤ 64) : AfterRounds s ws.length (ciwRun s ws) := by
  induction ws using List.reverseRecOn with
  | nil => exact afterRounds_zero hfsm ht
  | append_singleton ws w ih =>
    obtain ⟨hws, hw⟩ := noReset_append.mp hrst
    rw [List.length_append, List.length_singleton] at hlength ⊢
    rw [ciwRun_append]
    exact (ih hws (by omega)).ciwStep (by omega) (hw w (List.mem_singleton_self w))

/-- `u` is the state after the block in progress in `s` is done, on all that no host transaction changes. -/
structure BlockDone (s u : CoreState) : Prop where
  H : u.H = addBack s.H (rounds s.Wwin s.work 64)
  fsm : u.fsm = .IDLE
  valid : u.valid = true
  phase : u.phase = if s.last then .FINALIZED else s.phase

/-- The UPDATE edge after the 64 rounds. -/
theorem AfterRounds.blockDone {s u : CoreState} {w : Ciw} (h : AfterRounds s 64 u) (hrst : w.rst = false) :
    BlockDone s (Machine.ciwStep u w) := by
  have hupdate : u.fsm = .UPDATE := h.fsm
  have agree := ciwStep_agree_of_busy (s := u) (by simp [hupdate]) hrst
  rw [coreEdge_update u hupdate] at agree
  refine ⟨?H, agree.fsm, agree.valid, ?phase⟩
  case H => rw [agree.H, updateEdge_H, h.H, h.work]
  case phase => rw [agree.phase, updateEdge_phase, h.last, h.phase]

theorem ciwRun_blockDone {s : CoreState} (hfsm : s.fsm = .ROUND) (ht : s.t = 0) (ws : List Ciw) (hrst : NoReset ws)
    (hlength : ws.length = 65) : BlockDone s (ciwRun s ws) := by
  obtain rfl | ⟨ws, w, rfl⟩ := ws.eq_nil_or_concat'
  · cases hlength
  · obtain ⟨hws, hw⟩ := noReset_append.mp hrst
    have hrounds : ws.length = 64 := by simpa using hlength
    have after := ciwRun_afterRounds hfsm ht ws hws hrounds.le
    rw [hrounds] at after
    rw [ciwRun_append]
    exact after.blockDone (hw w (List.mem_singleton_self w))

/-- Settles O44: the rounds done so far, then the UPDATE edge. -/
theorem blockTakesSixtyFiveFurtherEdges : Obligations.BlockTakesSixtyFiveFurtherEdges := by
  unfold Obligations.BlockTakesSixtyFiveFurtherEdges
  intro s ws hfsm ht hrst
  refine ⟨fun hlength => ?rounds, fun hlength => ?update, fun hlength => ?done⟩
  case rounds =>
    have after := ciwRun_afterRounds hfsm ht ws hrst (by omega)
    refine ⟨after.fsm.trans (if_pos (by omega)), ?_, after.H⟩
    rw [after.t, BitVec.toNat_ofNat, Nat.mod_eq_of_lt (by omega)]
  case update =>
    have after := ciwRun_afterRounds hfsm ht ws hrst (by omega)
    rw [hlength] at after
    exact ⟨after.fsm, after.t, after.H⟩
  case done =>
    have done := ciwRun_blockDone hfsm ht ws hrst hlength
    exact ⟨done.fsm, done.valid, done.phase⟩

end Sys2Proof.Machine
end

section
/-! Proofs about the host's padding (41_message_padding.md R131 to R135): the layout of the padded bytes, their number, and the
place of each byte in the blocks. -/

namespace Sys2Proof.Machine

/-! ## The layout of the padded bytes (R133) -/

@[simp] theorem length_lengthField (n : Nat) : (lengthField n).length = 8 := by
  simp [lengthField]

/-- The zero bytes fill the last block up to the length field. -/
theorem padBytes_fills (n : Nat) : n + 1 + zeroBytes n + 8 = 64 * ((n + 8) / 64 + 1) := by
  unfold zeroBytes
  omega

theorem length_padBytes (B : List Byte) : (padBytes B).length = 64 * ((B.length + 8) / 64 + 1) := by
  rw [← padBytes_fills]
  simp only [padBytes, List.length_append, List.length_singleton, List.length_replicate, length_lengthField]

/-- The length field read back, most significant byte first, is the 64-bit length (R131). -/
theorem foldl_lengthField {n : Nat} (hn : n < 2 ^ 61) :
    (lengthField n).foldl (fun m p => 256 * m + p.toNat) 0 = 8 * n := by
  have hL : 8 * n < 2 ^ 64 := by omega
  simp only [lengthField, List.range_succ, List.range_zero, List.nil_append, List.map_cons, List.map_nil,
    List.cons_append, List.foldl_cons, List.foldl_nil, BitVec.extractLsb'_toNat, BitVec.toNat_ofNat, Nat.mod_eq_of_lt hL,
    Nat.shiftRight_eq_div_pow]
  omega

/-- Settles O51: the four parts of the padded bytes, each at its place. -/
theorem paddingLayout : Obligations.PaddingLayout := by
  unfold Obligations.PaddingLayout
  intro B hB
  have hlength : (padBytes B).length = B.length + 1 + zeroBytes B.length + 8 := by
    rw [length_padBytes, padBytes_fills]
  refine ⟨?message, ?marker, fun k hk hk' => ?zeros, ?lengthField⟩
  case message => simp [padBytes]
  case marker => simp [padBytes]
  case zeros =>
    rw [padBytes, List.getElem?_append_left (by simp; omega), List.getElem?_append_right (by simp; omega),
      List.getElem?_replicate, if_pos (by simp; omega)]
  case lengthField =>
    have hdrop : (padBytes B).drop ((padBytes B).length - 8) = lengthField B.length :=
      List.drop_left' (by simp [hlength]; omega)
    rw [hdrop, foldl_lengthField hB]

/-! ## Words and blocks (R132, R135) -/

theorem length_packWords (P : List Byte) : (packWords P).length = P.length / 4 := by
  fun_induction packWords P with
  | case1 p0 p1 p2 p3 rest ih => simp only [List.length_cons, ih]; omega
  | case2 P hshort =>
    have hlength : P.length < 4 := by
      by_contra hlong
      iterate 4
        obtain _ | ⟨_, P⟩ := P
        · simp at hlong
      exact hshort _ _ _ _ _ rfl
    exact (Nat.div_eq_of_lt hlength).symm

theorem length_blocksOf (ws : List Word) : (blocksOf ws).length = ws.length / 16 := by
  fun_induction blocksOf ws with
  | case1 _ _ _ _ _ _ _ _ _ _ _ _ _ _ _ _ rest ih => simp only [List.length_cons, ih]; omega
  | case2 ws hshort =>
    have hlength : ws.length < 16 := by
      by_contra hlong
      iterate 16
        obtain _ | ⟨_, ws⟩ := ws
        · simp at hlong
      exact hshort _ _ _ _ _ _ _ _ _ _ _ _ _ _ _ _ _ rfl
    exact (Nat.div_eq_of_lt hlength).symm

/-- Word w of the packed buffer is its bytes 4w to 4w + 3. -/
theorem packWords_get (P : List Byte) {w : Nat} (hw : w < (packWords P).length) :
    (packWords P)[w] = packWord (P.getD (4 * w) 0) (P.getD (4 * w + 1) 0) (P.getD (4 * w + 2) 0) (P.getD (4 * w + 3) 0) := by
  fun_induction packWords P generalizing w with
  | case1 p0 p1 p2 p3 rest ih =>
    cases w with
    | zero => rfl
    | succ w => exact ih (Nat.lt_of_succ_lt_succ hw)
  | case2 => exact absurd hw (Nat.not_lt_zero w)

/-- Word i of block j is word 16j + i of the packed buffer. -/
theorem blocksOf_get (ws : List Word) {j : Nat} (hj : j < (blocksOf ws).length) (i : Fin 16) :
    (blocksOf ws)[j][i] = ws.getD (16 * j + i) 0 := by
  fun_induction blocksOf ws generalizing j with
  | case1 _ _ _ _ _ _ _ _ _ _ _ _ _ _ _ _ rest ih =>
    cases j with
    | zero => fin_cases i <;> rfl
    | succ j =>
      rw [show 16 * (j + 1) + i.val = (16 * j + i.val) + 16 by omega]
      exact ih (Nat.lt_of_succ_lt_succ hj)
  | case2 => exact absurd hj (Nat.not_lt_zero j)

/-- Byte k of a word, the first in bits 31:24 (R132). -/
theorem packWord_byte (p : Nat → Byte) (k : Fin 4) :
    (packWord (p 0) (p 1) (p 2) (p 3)).extractLsb' (8 * (3 - k)) 8 = p k := by
  have skip {m : Nat} (x : BitVec m) (q : Byte) (start : Nat) :
      (x ++ q).extractLsb' (start + 8) 8 = x.extractLsb' start 8 := BitVec.extractLsb'_append_eq_of_le (by omega)
  fin_cases k
  · exact (skip _ _ 16).trans ((skip _ _ 8).trans BitVec.extractLsb'_append_eq_left)
  · exact (skip _ _ 8).trans ((skip _ _ 0).trans BitVec.extractLsb'_append_eq_right)
  · exact (skip _ _ 0).trans BitVec.extractLsb'_append_eq_right
  · exact BitVec.extractLsb'_append_eq_right

/-! ## The blocks of a message -/

theorem padMessage_eq_ok {B : List Byte} {blocks : List Block} (h : padMessage .STANDARD64 B = .ok blocks) :
    B.length < 2 ^ 61 ∧ blocks = blocksOf (packWords (padBytes B)) := by
  by_cases hB : B.length < 2 ^ 61
  · rw [padMessage_standard64_of_lt hB] at h
    exact ⟨hB, (Except.ok.inj h).symm⟩
  · rw [padMessage_standard64_of_ge (Nat.not_lt.mp hB)] at h
    cases h

theorem length_blocks_padBytes (B : List Byte) : (blocksOf (packWords (padBytes B))).length = (B.length + 8) / 64 + 1 := by
  rw [length_blocksOf, length_packWords, length_padBytes]
  omega

/-- Settles O52: the zero bytes fill the last block. -/
theorem paddingFillsWholeBlocks : Obligations.PaddingFillsWholeBlocks := by
  unfold Obligations.PaddingFillsWholeBlocks
  intro B hB
  exact ⟨length_padBytes B, _, padMessage_standard64_of_lt hB, length_blocks_padBytes B⟩

/-- Settles O53: word i of block j is word 16j + i of the packed buffer, and its bytes are the bytes 4(16j + i) + k. -/
theorem packedWordsAreBigEndian : Obligations.PackedWordsAreBigEndian := by
  unfold Obligations.PackedWordsAreBigEndian
  intro B blocks hblocks j i k hj
  obtain ⟨-, rfl⟩ := padMessage_eq_ok hblocks
  have hword : 16 * j + i.val < (packWords (padBytes B)).length := by
    rw [length_blocksOf] at hj
    omega
  rw [blocksOf_get _ hj, List.getD_eq_getElem _ _ hword, packWords_get _ hword,
    show 4 * (16 * j + i.val) = 64 * j + 4 * i.val by omega]
  exact packWord_byte (fun k => (padBytes B).getD (64 * j + 4 * i + k) 0) k

end Sys2Proof.Machine
end

section
/-! SUPPORT. BLK along a run (10_state.md R26, 44_host_interface.md R196), and runs of BLK writes, which the core's own edges do
not notice. -/

namespace Sys2Proof.Machine

/-! ## BLK after an edge -/

@[simp] theorem command_BLK (s n : CoreState) (v : Word) : (command s n v).BLK = n.BLK := by
  unfold command initCommand blockCommand initblockCommand
  dsimp only
  split_ifs <;> simp

theorem ciwStep_BLK (s : CoreState) {w : Ciw} (hrst : w.rst = false) : (ciwStep s w).BLK = loadWord s.BLK w := by
  cases hwe : w.we with
  | false => simp [ciwStep_read s hrst hwe, loadWord, hwe]
  | true => cases htarget : target w.addr <;> simp [ciwStep, portStep, hrst, hwe, htarget, loadWord]

theorem ciwRun_BLK (s : CoreState) (ws : List Ciw) (hrst : NoReset ws) : (ciwRun s ws).BLK = ws.foldl loadWord s.BLK := by
  induction ws generalizing s with
  | nil => rfl
  | cons w ws ih =>
    obtain ⟨hw, hws⟩ := List.forall_mem_cons.mp hrst
    rw [ciwRun_cons, ih _ hws, ciwStep_BLK s hw, List.foldl_cons]

/-! ## The core part does not use BLK -/

/-- The state with the block buffer `B`. -/
def CoreState.withBLK (s : CoreState) (B : Block) : CoreState := { s with BLK := B }

@[simp] theorem withBLK_BLK (s : CoreState) (B : Block) : (s.withBLK B).BLK = B := rfl

@[simp] theorem withBLK_H (s : CoreState) (B : Block) : (s.withBLK B).H = s.H := rfl

@[simp] theorem withBLK_withBLK (s : CoreState) (B B' : Block) : (s.withBLK B).withBLK B' = s.withBLK B' := rfl

theorem coreEdge_withBLK (s : CoreState) (B : Block) : coreEdge (s.withBLK B) = (coreEdge s).withBLK B := by
  cases hfsm : s.fsm with
  | IDLE => rw [coreEdge_idle s hfsm, coreEdge_idle (s.withBLK B) hfsm]
  | ROUND => rw [coreEdge_round s hfsm, coreEdge_round (s.withBLK B) hfsm]; rfl
  | UPDATE => rw [coreEdge_update s hfsm, coreEdge_update (s.withBLK B) hfsm]; rfl

theorem coreEdge_iterate_withBLK (n : Nat) (s : CoreState) (B : Block) :
    coreEdge^[n] (s.withBLK B) = (coreEdge^[n] s).withBLK B := by
  induction n generalizing s with
  | zero => rfl
  | succ n ih => rw [Function.iterate_succ_apply, Function.iterate_succ_apply, coreEdge_withBLK, ih]

theorem coreEdge_iterate_idle (n : Nat) {s : CoreState} (idle : s.fsm = .IDLE) : coreEdge^[n] s = s :=
  Function.iterate_fixed (coreEdge_idle s idle) n

/-! ## Loading a block -/

theorem target_blkAddr (i : BitVec 4) : target (blkAddr i) = .blk i := by
  revert i; decide

/-- A write of a word of BLK: the core part, and the word stored. -/
theorem ciwStep_busWrite_blkAddr (s : CoreState) (i : BitVec 4) (v : Word) :
    ciwStep s (busWrite (blkAddr i) v) = (coreEdge s).withBLK (s.BLK.set i.toNat v i.isLt) := by
  simp [ciwStep, portStep, busWrite, writeCiw, target_blkAddr, writeBLK, CoreState.withBLK]

/-- The sixteen words, stored one by one, are the block (R91). -/
theorem sets_eq_block (B M : Block) :
    ((((((((((((((((B.set 0 M[0]).set 1 M[1]).set 2 M[2]).set 3 M[3]).set 4 M[4]).set 5 M[5]).set 6 M[6]).set 7 M[7]).set 8
      M[8]).set 9 M[9]).set 10 M[10]).set 11 M[11]).set 12 M[12]).set 13 M[13]).set 14 M[14]).set 15 M[15]) = M := by
  apply Vector.ext
  intro i hi
  interval_cases i <;> simp

/-- `loadblk` runs sixteen edges of the core part beside storing the block (R91, R196). -/
theorem ciwRun_loadblkCiws (s : CoreState) (M : Block) : ciwRun s (loadblkCiws M) = (coreEdge^[16] s).withBLK M := by
  simp only [loadblkCiws, ciwRun_cons, ciwRun_nil, ciwStep_busWrite_blkAddr, coreEdge_withBLK, withBLK_withBLK,
    withBLK_BLK]
  exact congrArg _ (sets_eq_block s.BLK M)

theorem ciwRun_loadblkCiws_idle {s : CoreState} (M : Block) (idle : s.fsm = .IDLE) :
    ciwRun s (loadblkCiws M) = s.withBLK M := by
  rw [ciwRun_loadblkCiws, coreEdge_iterate_idle 16 idle]

end Sys2Proof.Machine
end

section
/-! Proofs about whole blocks and whole messages (43_compression.md section 3, 44_host_interface.md section 6): an accepted
command and 65 edges compress one block; the host's procedure chains the blocks of the padded message. -/

namespace Sys2Proof.Machine

/-! ## One block -/

/-- The state after an accepted block command: `first` starts a new hash (R171, R199 to R202). -/
def startedBlock (first isLast : Bool) (s : CoreState) : CoreState :=
  { loadBlock (if first then IV else s.H) s s with
    H := if first then IV else s.H
    valid := false
    phase := if first then .ACCEPTING else s.phase
    last := isLast
    err := if first then false else s.err
    errcode := if first then 0 else s.errcode }

/-- A block command is accepted on an IDLE core: `initblock` in either phase, `block` in ACCEPTING. -/
structure Accepts (first : Bool) (s : CoreState) : Prop where
  idle : s.fsm = .IDLE
  accepting : first = true ∨ s.phase = .ACCEPTING

theorem ciwStep_blockCommandCiw {first : Bool} {s : CoreState} (isLast : Bool) (h : Accepts first s) :
    ciwStep s (blockCommandCiw first isLast) = startedBlock first isLast s := by
  obtain ⟨idle, accepting⟩ := h
  have hcore := coreEdge_idle s idle
  cases first with
  | false =>
    have hp : s.phase ≠ .FINALIZED := by simp [accepting.resolve_left nofun]
    have hcommand : ciwStep s (blockCommandCiw false isLast) = blockCommand isLast s (coreEdge s) := by cases isLast <;> rfl
    rw [hcommand, hcore, blockCommand_accepted isLast s s idle hp]
    rfl
  | true =>
    have hcommand : ciwStep s (blockCommandCiw true isLast) = initblockCommand isLast s (coreEdge s) := by
      cases isLast <;> rfl
    rw [hcommand, hcore, initblockCommand_idle isLast s s idle]
    rfl

/-- The core is IDLE and holds the chaining value `H` of the blocks so far, the last one of which was the last block if
`isLast`. -/
structure Holds (H : Hash) (isLast : Bool) (u : CoreState) : Prop where
  H : u.H = H
  fsm : u.fsm = .IDLE
  valid : u.valid = true
  phase : u.phase = if isLast then .FINALIZED else .ACCEPTING

theorem Holds.accepts {H : Hash} {u : CoreState} (h : Holds H false u) : Accepts false u := ⟨h.fsm, .inr h.phase⟩

/-- The 64 rounds and the UPDATE edge after the command are `compress`. -/
theorem BlockDone.holds {first isLast : Bool} {s u : CoreState} (haccepts : Accepts first s)
    (h : BlockDone (startedBlock first isLast s) u) : Holds (compress (if first then IV else s.H) s.BLK) isLast u := by
  have hphase : (startedBlock first isLast s).phase = .ACCEPTING := by
    cases first with
    | true => rfl
    | false => exact haccepts.accepting.resolve_left nofun
  exact ⟨h.H, h.fsm, h.valid, h.phase.trans (by rw [hphase]; rfl)⟩

theorem ciwRun_oneBlock {first : Bool} {s : CoreState} (isLast : Bool) {gap : List Ciw} (haccepts : Accepts first s)
    (hlength : gap.length = 65) (hrst : NoReset gap) :
    Holds (compress (if first then IV else s.H) s.BLK) isLast (ciwRun s (blockCommandCiw first isLast :: gap)) := by
  rw [ciwRun_cons, ciwStep_blockCommandCiw isLast haccepts]
  exact (ciwRun_blockDone rfl rfl gap hrst hlength).holds haccepts

/-- Settles O45: the run is the fold of the port step over the command and the 65 CIWs after it. -/
theorem compressionOfOneBlock : Obligations.CompressionOfOneBlock := by
  unfold Obligations.CompressionOfOneBlock
  intro s first isLast gap rest idle accepting hlength hrst hinputs
  obtain ⟨t, hrun, hcore, hrest⟩ := run_of_inputs (blockCommandCiw first isLast :: gap) hinputs
  have holds := ciwRun_oneBlock isLast ⟨idle, accepting⟩ hlength hrst
  rw [List.length_cons, hlength] at hrun
  rw [← hcore] at holds
  exact ⟨t, hrun, hrest, holds.H, holds.fsm, holds.valid, holds.phase⟩

/-! ## The blocks of a message -/

/-- What the host presents while a block is in progress: 65 CIWs, none a reset. -/
def IsGap (gap : List Ciw) : Prop := gap.length = 65 ∧ NoReset gap

theorem length_hashInputs (first : Bool) {work : List (Block × List Ciw)} (hgaps : ∀ p ∈ work, IsGap p.2) :
    (hashInputs first work).length = 82 * work.length := by
  induction work generalizing first with
  | nil => rfl
  | cons p work ih =>
    obtain ⟨⟨hlength, -⟩, hwork⟩ := List.forall_mem_cons.mp hgaps
    simp only [hashInputs, loadblkCiws, List.length_append, List.length_cons, List.length_nil, hlength, ih false hwork]
    omega

/-- The blocks of a message, each loaded when the one before it is done, from a state that accepts the first command. -/
theorem ciwRun_hashInputs {first : Bool} {s : CoreState} {work : List (Block × List Ciw)} (haccepts : Accepts first s)
    (hne : work ≠ []) (hgaps : ∀ p ∈ work, IsGap p.2) :
    Holds (chain (if first then IV else s.H) (work.map Prod.fst)) true (ciwRun s (hashInputs first work)) := by
  induction work generalizing first s with
  | nil => exact absurd rfl hne
  | cons p work ih =>
    obtain ⟨M, gap⟩ := p
    obtain ⟨⟨hlength, hrst⟩, hwork⟩ := List.forall_mem_cons.mp hgaps
    have haccepts' : Accepts first (s.withBLK M) := ⟨haccepts.idle, haccepts.accepting⟩
    have done := ciwRun_oneBlock work.isEmpty haccepts' hlength hrst
    rw [hashInputs, ciwRun_append, ciwRun_append, ciwRun_loadblkCiws_idle M haccepts.idle]
    cases work with
    | nil => exact done
    | cons q work =>
      have holds := ih done.accepts (List.cons_ne_nil q work) hwork
      rw [done.H] at holds
      exact holds

theorem length_overlappedInputs (first : Bool) {work : List (Block × List Ciw)} (hgaps : ∀ p ∈ work, IsGap p.2) :
    (overlappedInputs first work).length = 66 * work.length := by
  induction work generalizing first with
  | nil => rfl
  | cons p work ih =>
    obtain ⟨⟨hlength, -⟩, hwork⟩ := List.forall_mem_cons.mp hgaps
    simp only [overlappedInputs, List.length_append, List.length_cons, hlength, ih false hwork]
    omega

/-- The blocks of a message, each but the first loaded while the one before it is in progress. -/
theorem ciwRun_overlappedInputs {first : Bool} {s : CoreState} {M : Block} {gap : List Ciw} {work : List (Block × List Ciw)}
    (haccepts : Accepts first s) (hBLK : s.BLK = M) (hgaps : ∀ p ∈ (M, gap) :: work, IsGap p.2)
    (hloads : ((M, gap) :: work).IsChain fun p q => p.2.foldl loadWord p.1 = q.1) :
    Holds (chain (if first then IV else s.H) (M :: work.map Prod.fst)) true
      (ciwRun s (overlappedInputs first ((M, gap) :: work))) := by
  induction work generalizing first s M gap with
  | nil =>
    obtain ⟨⟨hlength, hrst⟩, -⟩ := List.forall_mem_cons.mp hgaps
    have done := ciwRun_oneBlock true haccepts hlength hrst
    rw [hBLK] at done
    rw [overlappedInputs, overlappedInputs, List.append_nil]
    exact done
  | cons q work ih =>
    obtain ⟨M', gap'⟩ := q
    obtain ⟨⟨hlength, hrst⟩, hwork⟩ := List.forall_mem_cons.mp hgaps
    obtain ⟨hload, hloads'⟩ := List.isChain_cons_cons.mp hloads
    have done := ciwRun_oneBlock false haccepts hlength hrst
    have hBLK' : (ciwRun s (blockCommandCiw first false :: gap)).BLK = M' := by
      rw [ciwRun_cons, ciwStep_blockCommandCiw false haccepts, ciwRun_BLK _ gap hrst]
      exact hBLK ▸ hload
    have holds := ih done.accepts hBLK' hwork hloads'
    rw [done.H, hBLK] at holds
    rw [overlappedInputs, ciwRun_append]
    exact holds

/-! ## The digest of a message -/

theorem sha256_of_blocks {B : List Byte} {blocks : List Block} (h : padMessage .STANDARD64 B = .ok blocks) :
    sha256 B = .ok (chain IV blocks) := by
  rw [sha256, h]
  rfl

/-- A padded message has at least one block. -/
theorem blocks_ne_nil {B : List Byte} {blocks : List Block} (h : padMessage .STANDARD64 B = .ok blocks) : blocks ≠ [] := by
  obtain ⟨-, rfl⟩ := padMessage_eq_ok h
  apply List.ne_nil_of_length_pos
  rw [length_blocks_padBytes]
  omega

/-- The reset CIW, whatever the state (R90, R260). -/
theorem ciwStep_resetCiw (s : CoreState) : ciwStep s 0x8000000000 = CoreState.reset := rfl

theorem reset_accepts : Accepts true CoreState.reset := ⟨rfl, .inl rfl⟩

/-- Settles O46: from the reset state the blocks chain from IV. -/
theorem hostProcedureComputesTheDigest : Obligations.HostProcedureComputesTheDigest := by
  unfold Obligations.HostProcedureComputesTheDigest
  intro s B work rest hpad hgaps hinputs
  obtain ⟨t, hrun, hcore, hrest⟩ := run_of_inputs (0x8000000000 :: hashInputs true work) hinputs
  have hne : work ≠ [] := fun hnil => blocks_ne_nil hpad (by rw [hnil]; rfl)
  have holds := ciwRun_hashInputs reset_accepts hne hgaps
  rw [List.length_cons, length_hashInputs true hgaps, Nat.add_comm] at hrun
  rw [ciwRun_cons, ciwStep_resetCiw] at hcore
  rw [← hcore] at holds
  exact ⟨t, hrun, hrest, by rw [sha256_of_blocks hpad, holds.H]; rfl, holds.fsm, holds.phase, holds.valid⟩

/-- Settles O55: the same with BLK as the loads among the 65 CIWs leave it. -/
theorem hostMayLoadTheNextBlockDuringTheRounds : Obligations.HostMayLoadTheNextBlockDuringTheRounds := by
  unfold Obligations.HostMayLoadTheNextBlockDuringTheRounds
  intro s B M work rest hpad hhead hgaps hloads hinputs
  obtain ⟨t, hrun, hcore, hrest⟩ := run_of_inputs (0x8000000000 :: loadblkCiws M ++ overlappedInputs true work) hinputs
  obtain _ | ⟨⟨M', gap⟩, work⟩ := work
  · cases hhead
  obtain rfl : M' = M := Option.some.inj hhead
  have holds := ciwRun_overlappedInputs (s := CoreState.reset.withBLK M') (M := M') ⟨rfl, .inl rfl⟩ rfl hgaps hloads
  rw [List.length_append, length_overlappedInputs true hgaps] at hrun
  rw [ciwRun_append, ciwRun_cons, ciwStep_resetCiw, ciwRun_loadblkCiws_idle M' rfl] at hcore
  rw [← hcore] at holds
  exact ⟨t, hrun, hrest, by rw [sha256_of_blocks hpad, holds.H]; rfl, holds.fsm, holds.phase, holds.valid⟩

end Sys2Proof.Machine
end

section
/-! SUPPORT. How long a core is busy (43_compression.md R176, 70_reset_and_hazards.md section 4): the edges until fsm = IDLE, and
the state it then rests in while the host only reads. -/

namespace Sys2Proof.Machine

/-! ## Reads leave the core to its own edges -/

theorem ciwRun_reads (s : CoreState) (ws : List Ciw) (hreads : ∀ w ∈ ws, w.rst = false ∧ w.we = false) :
    ciwRun s ws = coreEdge^[ws.length] s := by
  induction ws generalizing s with
  | nil => rfl
  | cons w ws ih =>
    obtain ⟨⟨hrst, hwe⟩, hws⟩ := List.forall_mem_cons.mp hreads
    rw [ciwRun_cons, ciwStep_read s hrst hwe, ih _ hws, List.length_cons, Function.iterate_succ_apply]

theorem ciwRun_replicate_read (s : CoreState) {w : Ciw} (hread : w.rst = false ∧ w.we = false) (k : Nat) :
    ciwRun s (List.replicate k w) = coreEdge^[k] s := by
  rw [ciwRun_reads s _ fun w' hw' => by rwa [List.eq_of_mem_replicate hw'], List.length_replicate]

/-! ## The edges until IDLE -/

/-- The number of edges until the block in progress is done, 0 if there is none. -/
def edgesToIdle (s : CoreState) : Nat :=
  match s.fsm with
  | .IDLE => 0
  | .ROUND => 65 - s.t.toNat
  | .UPDATE => 1

theorem edgesToIdle_of_round {s : CoreState} (h : s.fsm = .ROUND) : edgesToIdle s = 65 - s.t.toNat := by
  rw [edgesToIdle, h]

theorem edgesToIdle_le (s : CoreState) : edgesToIdle s ≤ 65 := by
  unfold edgesToIdle
  split <;> omega

theorem edgesToIdle_eq_zero_iff (s : CoreState) : edgesToIdle s = 0 ↔ s.fsm = .IDLE := by
  have := s.t.isLt
  cases hfsm : s.fsm with
  | IDLE => simp [edgesToIdle, hfsm]
  | ROUND => simp [edgesToIdle, hfsm]; omega
  | UPDATE => simp [edgesToIdle, hfsm]

theorem edgesToIdle_coreEdge (s : CoreState) : edgesToIdle (coreEdge s) = edgesToIdle s - 1 := by
  cases hfsm : s.fsm with
  | IDLE => rw [coreEdge_idle s hfsm, (edgesToIdle_eq_zero_iff s).mpr hfsm]
  | UPDATE => rw [coreEdge_update s hfsm]; simp [edgesToIdle, hfsm]
  | ROUND =>
    rw [coreEdge_round s hfsm, edgesToIdle_of_round hfsm]
    by_cases ht : s.t = 63
    · rw [edgesToIdle, (roundEdge_last_round ht).1, ht]
      rfl
    · obtain ⟨hround, hcounter⟩ := roundEdge_earlier_round ht
      rw [edgesToIdle_of_round hround, hcounter]
      omega

theorem edgesToIdle_iterate (k : Nat) (s : CoreState) : edgesToIdle (coreEdge^[k] s) = edgesToIdle s - k := by
  induction k generalizing s with
  | zero => rfl
  | succ k ih => rw [Function.iterate_succ_apply, ih, edgesToIdle_coreEdge]; omega

theorem iterate_idle_iff (k : Nat) (s : CoreState) : (coreEdge^[k] s).fsm = .IDLE ↔ edgesToIdle s ≤ k := by
  rw [← edgesToIdle_eq_zero_iff, edgesToIdle_iterate, Nat.sub_eq_zero_iff_le]

/-! ## The state at rest -/

/-- The state the core rests in when the block in progress is done, if the host does nothing but read. -/
def settled (s : CoreState) : CoreState := coreEdge^[edgesToIdle s] s

theorem settled_fsm (s : CoreState) : (settled s).fsm = .IDLE := (iterate_idle_iff _ s).mpr le_rfl

theorem iterate_eq_settled {s : CoreState} {k : Nat} (h : edgesToIdle s ≤ k) : coreEdge^[k] s = settled s := by
  obtain ⟨m, rfl⟩ := Nat.exists_eq_add_of_le' h
  rw [Function.iterate_add_apply]
  exact coreEdge_iterate_idle m (settled_fsm s)

theorem settled_iterate (k : Nat) (s : CoreState) : settled (coreEdge^[k] s) = settled s := by
  have hlate : edgesToIdle s ≤ edgesToIdle (coreEdge^[k] s) + k := by rw [edgesToIdle_iterate]; omega
  rw [← iterate_eq_settled hlate, Function.iterate_add_apply]
  rfl

theorem settled_withBLK (s : CoreState) (B : Block) : settled (s.withBLK B) = (settled s).withBLK B :=
  coreEdge_iterate_withBLK (edgesToIdle s) s B

theorem settled_sameErrorRecord (s : CoreState) : SameErrorRecord (settled s) s := by
  unfold settled
  induction edgesToIdle s with
  | zero => exact ⟨rfl, rfl⟩
  | succ k ih =>
    obtain ⟨herr, hcode⟩ := ih
    rw [Function.iterate_succ_apply']
    exact ⟨(coreEdge_err _).trans herr, (coreEdge_errcode _).trans hcode⟩

end Sys2Proof.Machine
end

section
/-! Proofs about waitready and the other pseudo-instructions (30_encoding.md R91, 70_reset_and_hazards.md section 4). -/

namespace Sys2Proof.Machine

/-- Bit 0 of STATUS is READY (R36). -/
theorem readData_STATUS_ready (s : CoreState) : (readData s STATUS).getLsbD 0 = s.ready := statusWord_getLsbD s 0

theorem busRead_STATUS : busRead STATUS = 0x0100000000 := by decide

theorem busRead_STATUS_reads : Ciw.rst 0x0100000000 = false ∧ Ciw.we 0x0100000000 = false := by decide

/-- After k reads READY is 1 exactly when the block in progress took no more than k edges. -/
theorem ready_after_reads (s : CoreState) (k : Nat) :
    (readData (ciwRun s (List.replicate k 0x0100000000)) STATUS).getLsbD 0 = decide (edgesToIdle s ≤ k) := by
  rw [readData_STATUS_ready, ciwRun_replicate_read s busRead_STATUS_reads, CoreState.ready]
  simp only [beq_eq_decide, iterate_idle_iff]

theorem waitreadyCiws_eq_replicate {fuel : Nat} {s : CoreState} (h : edgesToIdle s < fuel) :
    waitreadyCiws fuel s = List.replicate (edgesToIdle s + 1) 0x0100000000 := by
  induction fuel generalizing s with
  | zero => omega
  | succ fuel ih =>
    have hready : (readData s STATUS).getLsbD 0 = decide (edgesToIdle s ≤ 0) := ready_after_reads s 0
    rw [waitreadyCiws, hready, busRead_STATUS, List.replicate_succ]
    by_cases hidle : edgesToIdle s = 0
    · simp [hidle]
    · have hedge := edgesToIdle_coreEdge s
      rw [if_neg (by simp [hidle]), ciwStep_read s busRead_STATUS_reads.1 busRead_STATUS_reads.2, ih (by omega), hedge,
        Nat.sub_add_cancel (by omega)]

/-- `waitready` reads STATUS until the block in progress is done, and once more; the bound of 66 reads is never the end. -/
theorem assemble_waitready (s : CoreState) :
    assemble s .waitready = List.replicate (edgesToIdle s + 1) 0x0100000000 :=
  waitreadyCiws_eq_replicate (Nat.lt_succ_of_le (edgesToIdle_le s))

/-- The value read has bit 0 = 1 at the last read and at no read before. -/
theorem ready_at_last_read {s : CoreState} {k : Nat} (hk : k ≤ edgesToIdle s) :
    (readData (ciwRun s (List.replicate k 0x0100000000)) STATUS).getLsbD 0 = decide (k = edgesToIdle s) := by
  rw [ready_after_reads]
  exact decide_eq_decide.mpr ⟨hk.antisymm, fun h => h.ge⟩

/-- Settles O56: the expansions one by one; `waitready` makes one read more than the edges until IDLE, at most 65. -/
theorem pseudoInstructionsExpand : Obligations.PseudoInstructionsExpand := by
  unfold Obligations.PseudoInstructionsExpand
  intro s
  exact ⟨rfl, fun n => rfl, fun M => rfl, rfl, congrArg (fun w => [w]) busRead_STATUS,
    edgesToIdle s, edgesToIdle_le s, assemble_waitready s, fun k hk => ready_at_last_read hk⟩

/-- `block` and `block.last` are rejected in FINALIZED (R232). -/
theorem accepting_of_no_rejection {s : CoreState} {v : Word} (hv : v = 2 ∨ v = 6)
    (h : rejection s (writeCiw CTRL v) = none) : s.phase ≠ .FINALIZED := by
  unfold writeCiw at h
  rw [rejection_write_ctrl s (ciw_rst ..) (ciw_we ..) (by rw [ciw_addr]; rfl), ciw_data] at h
  have hnop : v ≠ 0 := by rcases hv with rfl | rfl <;> decide
  exact ((commandRejection_eq_none h).2 hnop).2 hv

/-- An accepted block command is in round 0 after its edge (R171). -/
theorem round_zero_of_accepted {s t : State} {i : Instr}
    (hi : i = .block ∨ i = .blockLast ∨ i = .initblock ∨ i = .initblockLast) (idle : s.core.fsm = .IDLE) (haccepted : rejection s.core (encode i) = none) (hexec : exec i s = .next t) :
    t.core.fsm = .ROUND ∧ t.core.t = 0 := by
  rcases hi with rfl | rfl | rfl | rfl
  · have accepting : s.core.phase ≠ .FINALIZED := accepting_of_no_rejection (.inl rfl) haccepted
    cases (exec_block_accepted false idle accepting).symm.trans hexec
    exact ⟨rfl, rfl⟩
  · have accepting : s.core.phase ≠ .FINALIZED := accepting_of_no_rejection (.inr rfl) haccepted
    cases (exec_block_accepted true idle accepting).symm.trans hexec
    exact ⟨rfl, rfl⟩
  · cases (exec_initblock_idle false idle).symm.trans hexec
    exact ⟨rfl, rfl⟩
  · cases (exec_initblock_idle true idle).symm.trans hexec
    exact ⟨rfl, rfl⟩

/-- Settles O57: round 0 is 65 edges before IDLE. -/
theorem waitreadyAfterACommandMakesSixtySixReads : Obligations.WaitreadyAfterACommandMakesSixtySixReads := by
  unfold Obligations.WaitreadyAfterACommandMakesSixtySixReads
  intro s i t hi idle haccepted hexec
  obtain ⟨hround, hcounter⟩ := round_zero_of_accepted hi idle haccepted hexec
  have hedges : edgesToIdle t.core = 65 := by rw [edgesToIdle_of_round hround, hcounter]; rfl
  refine ⟨by rw [assemble_waitready, hedges], fun k hk => ?_⟩
  have hlast := ready_at_last_read (s := t.core) (k := k) (by omega)
  rwa [hedges] at hlast

end Sys2Proof.Machine
end

section
/-! Proof about the host's procedure as a program (44_host_interface.md section 6): statement by statement, each in the state its
predecessors leave. -/

namespace Sys2Proof.Machine

/-! ## A program's run, statement by statement -/

/-- The state after a statement that the host comes to in state `s`. -/
def runStatement (s : CoreState) (st : Statement) : CoreState := ciwRun s (assemble s st)

theorem ciwRun_assembleProgram (s : CoreState) (program : List Statement) :
    ciwRun s (assembleProgram s program) = program.foldl runStatement s := by
  induction program generalizing s with
  | nil => rfl
  | cons st program ih => rw [assembleProgram, ciwRun_append, ih, List.foldl_cons, runStatement]

theorem runStatement_reset (s : CoreState) : runStatement s .reset = CoreState.reset := rfl

theorem runStatement_loadblk (s : CoreState) (M : Block) :
    runStatement s (.loadblk M) = (coreEdge^[16] s).withBLK M := ciwRun_loadblkCiws s M

theorem runStatement_waitready (s : CoreState) : runStatement s .waitready = settled s := by
  rw [runStatement, assemble_waitready, ciwRun_replicate_read s busRead_STATUS_reads,
    iterate_eq_settled (Nat.le_succ _)]

theorem runStatement_rddigest {s : CoreState} (idle : s.fsm = .IDLE) : runStatement s .rddigest = s := by
  have hreads : ∀ w ∈ rddigestCiws, w.rst = false ∧ w.we = false := by simp [rddigestCiws, busRead, readCiw]
  exact (ciwRun_reads s rddigestCiws hreads).trans (coreEdge_iterate_idle _ idle)

theorem runStatement_blockCommandFor {first : Bool} {s : CoreState} (isLast : Bool) (h : Accepts first s) :
    runStatement s (blockCommandFor first isLast) = startedBlock first isLast s := by
  have hassemble : assemble s (blockCommandFor first isLast) = [blockCommandCiw first isLast] := by
    cases first <;> cases isLast <;> exact congrArg (fun w => [w]) (by decide)
  rw [runStatement, hassemble, ciwRun_cons, ciwRun_nil, ciwStep_blockCommandCiw isLast h]

/-! ## One block of the program -/

/-- No error is recorded. -/
def NoError (s : CoreState) : Prop := s.err = false ∧ s.errcode = 0

theorem SameErrorRecord.noError {n s : CoreState} (h : SameErrorRecord n s) (hs : NoError s) : NoError n :=
  ⟨h.1.trans hs.1, h.2.trans hs.2⟩

/-- A core at rest takes the next block command and will have no error recorded. -/
structure ReadyFor (first : Bool) (s : CoreState) : Prop where
  accepts : Accepts first s
  noError : first = true ∨ NoError s

theorem noError_startedBlock {first : Bool} {s : CoreState} (isLast : Bool) (h : ReadyFor first s) :
    NoError (startedBlock first isLast s) := by
  cases first with
  | true => exact ⟨rfl, rfl⟩
  | false => exact h.noError.resolve_left nofun

/-- After an accepted command the core comes to rest with the block compressed. -/
theorem holds_settled_startedBlock {first : Bool} {s : CoreState} (isLast : Bool) (h : Accepts first s) :
    Holds (compress (if first then IV else s.H) s.BLK) isLast (settled (startedBlock first isLast s)) := by
  have hidles : NoReset (List.replicate 65 idleCiw) := fun w hw => by rw [List.eq_of_mem_replicate hw]; decide
  have done := ciwRun_blockDone (s := startedBlock first isLast s) rfl rfl _ hidles List.length_replicate
  rw [ciwRun_replicate_read _ (by decide), iterate_eq_settled (edgesToIdle_le _)] at done
  exact done.holds h

/-- The state after `loadblk`, `waitready` and the command of a block. -/
def runBlock (s : CoreState) (first isLast : Bool) (M : Block) : CoreState :=
  runStatement (runStatement (runStatement s (.loadblk M)) .waitready) (blockCommandFor first isLast)

/-- The load does not disturb the block in progress, `waitready` lets it come to its end, and the command is accepted. -/
theorem runBlock_eq {first : Bool} {s : CoreState} (isLast : Bool) (M : Block) (h : Accepts first (settled s)) :
    runBlock s first isLast M = startedBlock first isLast ((settled s).withBLK M) := by
  rw [runBlock, runStatement_loadblk, runStatement_waitready, settled_withBLK, settled_iterate]
  exact runStatement_blockCommandFor isLast ⟨h.idle, h.accepting⟩

theorem holds_settled_runBlock {first : Bool} {s : CoreState} (isLast : Bool) (M : Block) (h : ReadyFor first (settled s)) :
    Holds (compress (if first then IV else (settled s).H) M) isLast (settled (runBlock s first isLast M)) ∧
      NoError (settled (runBlock s first isLast M)) := by
  have hready : ReadyFor first ((settled s).withBLK M) := ⟨⟨h.accepts.idle, h.accepts.accepting⟩, h.noError⟩
  have done := holds_settled_startedBlock isLast hready.accepts
  rw [withBLK_H, withBLK_BLK] at done
  rw [runBlock_eq isLast M h.accepts]
  exact ⟨done, (settled_sameErrorRecord _).noError (noError_startedBlock isLast hready)⟩

/-! ## All blocks of the program -/

theorem holds_settled_blockStatements {first : Bool} {s : CoreState} {blocks : List Block}
    (h : ReadyFor first (settled s)) (hne : blocks ≠ []) :
    Holds (chain (if first then IV else (settled s).H) blocks) true
        (settled ((blockStatements first blocks).foldl runStatement s)) ∧
      NoError (settled ((blockStatements first blocks).foldl runStatement s)) := by
  induction blocks generalizing first s with
  | nil => exact absurd rfl hne
  | cons M blocks ih =>
    have hrun : (blockStatements first (M :: blocks)).foldl runStatement s =
      (blockStatements false blocks).foldl runStatement (runBlock s first blocks.isEmpty M) := rfl
    obtain ⟨done, clean⟩ := holds_settled_runBlock blocks.isEmpty M h
    rw [hrun]
    cases blocks with
    | nil => exact ⟨done, clean⟩
    | cons M' blocks =>
      have holds := ih ⟨done.accepts, .inr clean⟩ (List.cons_ne_nil M' blocks)
      rw [done.H] at holds
      exact holds

/-- READY, VALID and FINAL are 1 and no error is recorded (R36, R192). -/
theorem statusWord_of_final {H : Hash} {s : CoreState} (h : Holds H true s) (hs : NoError s) :
    statusWord s = 0x00000007 := by
  obtain ⟨herr, hcode⟩ := hs
  rw [statusWord, CoreState.ready, CoreState.final, h.fsm, h.valid, h.phase, herr, hcode]
  decide

theorem run_hashStatements (s : CoreState) (blocks : List Block) :
    ciwRun s (assembleProgram s (hashStatements blocks)) =
      settled ((blockStatements true blocks).foldl runStatement CoreState.reset) := by
  have hprogram : hashStatements blocks = .reset :: (blockStatements true blocks ++ [.waitready, .rddigest]) := rfl
  rw [ciwRun_assembleProgram, hprogram, List.foldl_cons, runStatement_reset, List.foldl_append, List.foldl_cons,
    runStatement_waitready, List.foldl_cons, List.foldl_nil, runStatement_rddigest (settled_fsm _)]

/-- Settles O58: after the reset each block is compressed in turn, and the last `waitready` waits for the last one. -/
theorem hostProgramComputesTheDigest : Obligations.HostProgramComputesTheDigest := by
  unfold Obligations.HostProgramComputesTheDigest
  intro s B blocks rest hpad hinputs
  obtain ⟨t, hrun, hcore, hrest⟩ := run_of_inputs _ hinputs
  have hready : ReadyFor true (settled CoreState.reset) := ⟨⟨settled_fsm _, .inl rfl⟩, .inl rfl⟩
  obtain ⟨holds, clean⟩ := holds_settled_blockStatements hready (blocks_ne_nil hpad)
  rw [← run_hashStatements s.core blocks, ← hcore] at holds clean
  exact ⟨t, hrun, hrest, by rw [sha256_of_blocks hpad, holds.H]; rfl, statusWord_of_final holds clean⟩

end Sys2Proof.Machine
end
